-- ==== Sys2Proof/Word.lean ====
section
/-! DEFINITION. The two widths of the block: the 8-bit byte and the 16-bit address or operand (20_memory.md R53). -/

namespace Sys2Proof

/-- A stream byte, opcode, selector or displacement: 8 bits, unsigned (00_scope.md R10). -/
abbrev Byte := BitVec 8

/-- The cursor address and the 16-bit operand: 16 bits, wrapping (10_state.md R24, R29). -/
abbrev Word := BitVec 16

end Sys2Proof
end

