-- ==== Sys2Proof/Config.lean ====
section
/-! DEFINITION. The configuration of the block: the table set `TABLES` and its descriptors (00_scope.md R9, R12; 10_state.md R31, R32), and the reasons a run stops. -/

namespace Sys2Proof

/-- The seven opcode tables: "an enumerated constant set" (20_memory.md R58; 10_state.md R31). -/
inductive TableId where
  | primary
  | cb
  | ed
  | dd
  | fd
  | ddcb
  | fdcb
deriving DecidableEq, Repr

/-- A table entry (00_scope.md R12, 10_state.md R32). `placeholder` is decoded as `plain`; the label
records that no real instruction stands at the entry. -/
inductive Descriptor where
  | plain (mnemonic : String) (length : Nat)
  | placeholder (mnemonic : String) (length : Nat)
  | prefixTo (table : TableId)
  | displacedPrefixTo (table : TableId)
deriving DecidableEq, Repr

/-- `TABLES`: one primary table, four secondary tables, two third-level tables (10_state.md R31).
Each is a list, so that completeness (30_encoding.md R97 WF1) is a check and not an assumption. -/
structure TableSet where
  primary : List Descriptor
  cb : List Descriptor
  ed : List Descriptor
  dd : List Descriptor
  fd : List Descriptor
  ddcb : List Descriptor
  fdcb : List Descriptor
deriving DecidableEq, Repr

/-- The table a table id names. -/
def TableSet.table (T : TableSet) : TableId → List Descriptor
  | .primary => T.primary
  | .cb => T.cb
  | .ed => T.ed
  | .dd => T.dd
  | .fd => T.fd
  | .ddcb => T.ddcb
  | .fdcb => T.fdcb

/-- `T[i]` (20_memory.md R58). `none` only where the table is shorter than the index, which
30_encoding.md R97 WF1 excludes. -/
def TableSet.lookup (T : TableSet) (t : TableId) (i : Byte) : Option Descriptor :=
  (T.table t)[i.toNat]?

/-- Which table set decodes: the default content of files 41-47, or another set in its place
(92_eei_decisions.md D4: `TABLES` is OPEN). -/
inductive TableChoice where
  | standard
  | replacement (T : TableSet)
deriving DecidableEq, Repr

/-- Why a run stopped (10_state.md R27; a model-only record, 92_eei_decisions.md D13). -/
inductive StopReason where
  | endOfStream
  | truncatedPrefix
  | truncatedOperand
deriving DecidableEq, Repr

end Sys2Proof
end

