-- ==== Sys2Proof/Syntax.lean ====
section
/-! DEFINITION. The instructions: one constructor for each of the 1792 table entries of spec/opcode_table.json (30_encoding.md R91), and the operand of a line. -/

namespace Sys2Proof

/-- The operand of a decoded line: absent, 8 bits or 16 bits, unsigned (10_state.md R29). -/
inductive Operand where
  | none
  | u8 (v : Byte)
  | u16 (v : Word)
deriving DecidableEq, Repr

/-- The shape of the operand an encoding carries (30_encoding.md R81, R87): nothing, one byte, or two bytes low
byte first. -/
inductive OperandForm where
  | none
  | byte
  | word
deriving DecidableEq, Repr

/-- An instruction is a table entry: its opcode bytes select it (00_scope.md R13), and its operand bytes stay in the
stream, where its rule reads them (`U8(S[off+1])`, ...). A constructor is named by its table, its index byte and its
mnemonic; `m` stands for the parentheses of an access and `x` for an apostrophe. In a mnemonic `n` is an 8-bit
immediate or port, `nn` a 16-bit one, `e` a relative-jump byte, `d` a displacement (30_encoding.md R101).
The six `PREFIX` constructors are the dispatch rows (30_encoding.md R102): the marker alone. DESIGN CHOICE (safe),
log 6. -/
inductive Instr where
  -- Primary table: R1000 to R1255.
  | p00_NOP
  | p01_LD_BC_nn
  | p02_LD_mBC_A
  | p03_INC_BC
  | p04_INC_B
  | p05_DEC_B
  | p06_LD_B_n
  | p07_RLCA
  | p08_EX_AF_AFx
  | p09_ADD_HL_BC
  | p0A_LD_A_mBC
  | p0B_DEC_BC
  | p0C_INC_C
  | p0D_DEC_C
  | p0E_LD_C_n
  | p0F_RRCA
  | p10_DJNZ_e
  | p11_LD_DE_nn
  | p12_LD_mDE_A
  | p13_INC_DE
  | p14_INC_D
  | p15_DEC_D
  | p16_LD_D_n
  | p17_RLA
  | p18_JR_e
  | p19_ADD_HL_DE
  | p1A_LD_A_mDE
  | p1B_DEC_DE
  | p1C_INC_E
  | p1D_DEC_E
  | p1E_LD_E_n
  | p1F_RRA
  | p20_JR_NZ_e
  | p21_LD_HL_nn
  | p22_LD_mnn_HL
  | p23_INC_HL
  | p24_INC_H
  | p25_DEC_H
  | p26_LD_H_n
  | p27_DAA
  | p28_JR_Z_e
  | p29_ADD_HL_HL
  | p2A_LD_HL_mnn
  | p2B_DEC_HL
  | p2C_INC_L
  | p2D_DEC_L
  | p2E_LD_L_n
  | p2F_CPL
  | p30_JR_NC_e
  | p31_LD_SP_nn
  | p32_LD_mnn_A
  | p33_INC_SP
  | p34_INC_mHL
  | p35_DEC_mHL
  | p36_LD_mHL_n
  | p37_SCF
  | p38_JR_C_e
  | p39_ADD_HL_SP
  | p3A_LD_A_mnn
  | p3B_DEC_SP
  | p3C_INC_A
  | p3D_DEC_A
  | p3E_LD_A_n
  | p3F_CCF
  | p40_LD_B_B
  | p41_LD_B_C
  | p42_LD_B_D
  | p43_LD_B_E
  | p44_LD_B_H
  | p45_LD_B_L
  | p46_LD_B_mHL
  | p47_LD_B_A
  | p48_LD_C_B
  | p49_LD_C_C
  | p4A_LD_C_D
  | p4B_LD_C_E
  | p4C_LD_C_H
  | p4D_LD_C_L
  | p4E_LD_C_mHL
  | p4F_LD_C_A
  | p50_LD_D_B
  | p51_LD_D_C
  | p52_LD_D_D
  | p53_LD_D_E
  | p54_LD_D_H
  | p55_LD_D_L
  | p56_LD_D_mHL
  | p57_LD_D_A
  | p58_LD_E_B
  | p59_LD_E_C
  | p5A_LD_E_D
  | p5B_LD_E_E
  | p5C_LD_E_H
  | p5D_LD_E_L
  | p5E_LD_E_mHL
  | p5F_LD_E_A
  | p60_LD_H_B
  | p61_LD_H_C
  | p62_LD_H_D
  | p63_LD_H_E
  | p64_LD_H_H
  | p65_LD_H_L
  | p66_LD_H_mHL
  | p67_LD_H_A
  | p68_LD_L_B
  | p69_LD_L_C
  | p6A_LD_L_D
  | p6B_LD_L_E
  | p6C_LD_L_H
  | p6D_LD_L_L
  | p6E_LD_L_mHL
  | p6F_LD_L_A
  | p70_LD_mHL_B
  | p71_LD_mHL_C
  | p72_LD_mHL_D
  | p73_LD_mHL_E
  | p74_LD_mHL_H
  | p75_LD_mHL_L
  | p76_HALT
  | p77_LD_mHL_A
  | p78_LD_A_B
  | p79_LD_A_C
  | p7A_LD_A_D
  | p7B_LD_A_E
  | p7C_LD_A_H
  | p7D_LD_A_L
  | p7E_LD_A_mHL
  | p7F_LD_A_A
  | p80_ADD_A_B
  | p81_ADD_A_C
  | p82_ADD_A_D
  | p83_ADD_A_E
  | p84_ADD_A_H
  | p85_ADD_A_L
  | p86_ADD_A_mHL
  | p87_ADD_A_A
  | p88_ADC_A_B
  | p89_ADC_A_C
  | p8A_ADC_A_D
  | p8B_ADC_A_E
  | p8C_ADC_A_H
  | p8D_ADC_A_L
  | p8E_ADC_A_mHL
  | p8F_ADC_A_A
  | p90_SUB_B
  | p91_SUB_C
  | p92_SUB_D
  | p93_SUB_E
  | p94_SUB_H
  | p95_SUB_L
  | p96_SUB_mHL
  | p97_SUB_A
  | p98_SBC_A_B
  | p99_SBC_A_C
  | p9A_SBC_A_D
  | p9B_SBC_A_E
  | p9C_SBC_A_H
  | p9D_SBC_A_L
  | p9E_SBC_A_mHL
  | p9F_SBC_A_A
  | pA0_AND_B
  | pA1_AND_C
  | pA2_AND_D
  | pA3_AND_E
  | pA4_AND_H
  | pA5_AND_L
  | pA6_AND_mHL
  | pA7_AND_A
  | pA8_XOR_B
  | pA9_XOR_C
  | pAA_XOR_D
  | pAB_XOR_E
  | pAC_XOR_H
  | pAD_XOR_L
  | pAE_XOR_mHL
  | pAF_XOR_A
  | pB0_OR_B
  | pB1_OR_C
  | pB2_OR_D
  | pB3_OR_E
  | pB4_OR_H
  | pB5_OR_L
  | pB6_OR_mHL
  | pB7_OR_A
  | pB8_CP_B
  | pB9_CP_C
  | pBA_CP_D
  | pBB_CP_E
  | pBC_CP_H
  | pBD_CP_L
  | pBE_CP_mHL
  | pBF_CP_A
  | pC0_RET_NZ
  | pC1_POP_BC
  | pC2_JP_NZ_nn
  | pC3_JP_nn
  | pC4_CALL_NZ_nn
  | pC5_PUSH_BC
  | pC6_ADD_A_n
  | pC7_RST_00H
  | pC8_RET_Z
  | pC9_RET
  | pCA_JP_Z_nn
  | pCB_PREFIX_CB
  | pCC_CALL_Z_nn
  | pCD_CALL_nn
  | pCE_ADC_A_n
  | pCF_RST_08H
  | pD0_RET_NC
  | pD1_POP_DE
  | pD2_JP_NC_nn
  | pD3_OUT_mn_A
  | pD4_CALL_NC_nn
  | pD5_PUSH_DE
  | pD6_SUB_n
  | pD7_RST_10H
  | pD8_RET_C
  | pD9_EXX
  | pDA_JP_C_nn
  | pDB_IN_A_mn
  | pDC_CALL_C_nn
  | pDD_PREFIX_DD
  | pDE_SBC_A_n
  | pDF_RST_18H
  | pE0_RET_PO
  | pE1_POP_HL
  | pE2_JP_PO_nn
  | pE3_EX_mSP_HL
  | pE4_CALL_PO_nn
  | pE5_PUSH_HL
  | pE6_AND_n
  | pE7_RST_20H
  | pE8_RET_PE
  | pE9_JP_mHL
  | pEA_JP_PE_nn
  | pEB_EX_DE_HL
  | pEC_CALL_PE_nn
  | pED_PREFIX_ED
  | pEE_XOR_n
  | pEF_RST_28H
  | pF0_RET_P
  | pF1_POP_AF
  | pF2_JP_P_nn
  | pF3_DI
  | pF4_CALL_P_nn
  | pF5_PUSH_AF
  | pF6_OR_n
  | pF7_RST_30H
  | pF8_RET_M
  | pF9_LD_SP_HL
  | pFA_JP_M_nn
  | pFB_EI
  | pFC_CALL_M_nn
  | pFD_PREFIX_FD
  | pFE_CP_n
  | pFF_RST_38H
  -- CB table: R2000 to R2255.
  | cb00_RLC_B
  | cb01_RLC_C
  | cb02_RLC_D
  | cb03_RLC_E
  | cb04_RLC_H
  | cb05_RLC_L
  | cb06_RLC_mHL
  | cb07_RLC_A
  | cb08_RRC_B
  | cb09_RRC_C
  | cb0A_RRC_D
  | cb0B_RRC_E
  | cb0C_RRC_H
  | cb0D_RRC_L
  | cb0E_RRC_mHL
  | cb0F_RRC_A
  | cb10_RL_B
  | cb11_RL_C
  | cb12_RL_D
  | cb13_RL_E
  | cb14_RL_H
  | cb15_RL_L
  | cb16_RL_mHL
  | cb17_RL_A
  | cb18_RR_B
  | cb19_RR_C
  | cb1A_RR_D
  | cb1B_RR_E
  | cb1C_RR_H
  | cb1D_RR_L
  | cb1E_RR_mHL
  | cb1F_RR_A
  | cb20_SLA_B
  | cb21_SLA_C
  | cb22_SLA_D
  | cb23_SLA_E
  | cb24_SLA_H
  | cb25_SLA_L
  | cb26_SLA_mHL
  | cb27_SLA_A
  | cb28_SRA_B
  | cb29_SRA_C
  | cb2A_SRA_D
  | cb2B_SRA_E
  | cb2C_SRA_H
  | cb2D_SRA_L
  | cb2E_SRA_mHL
  | cb2F_SRA_A
  | cb30_SLL_B
  | cb31_SLL_C
  | cb32_SLL_D
  | cb33_SLL_E
  | cb34_SLL_H
  | cb35_SLL_L
  | cb36_SLL_mHL
  | cb37_SLL_A
  | cb38_SRL_B
  | cb39_SRL_C
  | cb3A_SRL_D
  | cb3B_SRL_E
  | cb3C_SRL_H
  | cb3D_SRL_L
  | cb3E_SRL_mHL
  | cb3F_SRL_A
  | cb40_BIT_0_B
  | cb41_BIT_0_C
  | cb42_BIT_0_D
  | cb43_BIT_0_E
  | cb44_BIT_0_H
  | cb45_BIT_0_L
  | cb46_BIT_0_mHL
  | cb47_BIT_0_A
  | cb48_BIT_1_B
  | cb49_BIT_1_C
  | cb4A_BIT_1_D
  | cb4B_BIT_1_E
  | cb4C_BIT_1_H
  | cb4D_BIT_1_L
  | cb4E_BIT_1_mHL
  | cb4F_BIT_1_A
  | cb50_BIT_2_B
  | cb51_BIT_2_C
  | cb52_BIT_2_D
  | cb53_BIT_2_E
  | cb54_BIT_2_H
  | cb55_BIT_2_L
  | cb56_BIT_2_mHL
  | cb57_BIT_2_A
  | cb58_BIT_3_B
  | cb59_BIT_3_C
  | cb5A_BIT_3_D
  | cb5B_BIT_3_E
  | cb5C_BIT_3_H
  | cb5D_BIT_3_L
  | cb5E_BIT_3_mHL
  | cb5F_BIT_3_A
  | cb60_BIT_4_B
  | cb61_BIT_4_C
  | cb62_BIT_4_D
  | cb63_BIT_4_E
  | cb64_BIT_4_H
  | cb65_BIT_4_L
  | cb66_BIT_4_mHL
  | cb67_BIT_4_A
  | cb68_BIT_5_B
  | cb69_BIT_5_C
  | cb6A_BIT_5_D
  | cb6B_BIT_5_E
  | cb6C_BIT_5_H
  | cb6D_BIT_5_L
  | cb6E_BIT_5_mHL
  | cb6F_BIT_5_A
  | cb70_BIT_6_B
  | cb71_BIT_6_C
  | cb72_BIT_6_D
  | cb73_BIT_6_E
  | cb74_BIT_6_H
  | cb75_BIT_6_L
  | cb76_BIT_6_mHL
  | cb77_BIT_6_A
  | cb78_BIT_7_B
  | cb79_BIT_7_C
  | cb7A_BIT_7_D
  | cb7B_BIT_7_E
  | cb7C_BIT_7_H
  | cb7D_BIT_7_L
  | cb7E_BIT_7_mHL
  | cb7F_BIT_7_A
  | cb80_RES_0_B
  | cb81_RES_0_C
  | cb82_RES_0_D
  | cb83_RES_0_E
  | cb84_RES_0_H
  | cb85_RES_0_L
  | cb86_RES_0_mHL
  | cb87_RES_0_A
  | cb88_RES_1_B
  | cb89_RES_1_C
  | cb8A_RES_1_D
  | cb8B_RES_1_E
  | cb8C_RES_1_H
  | cb8D_RES_1_L
  | cb8E_RES_1_mHL
  | cb8F_RES_1_A
  | cb90_RES_2_B
  | cb91_RES_2_C
  | cb92_RES_2_D
  | cb93_RES_2_E
  | cb94_RES_2_H
  | cb95_RES_2_L
  | cb96_RES_2_mHL
  | cb97_RES_2_A
  | cb98_RES_3_B
  | cb99_RES_3_C
  | cb9A_RES_3_D
  | cb9B_RES_3_E
  | cb9C_RES_3_H
  | cb9D_RES_3_L
  | cb9E_RES_3_mHL
  | cb9F_RES_3_A
  | cbA0_RES_4_B
  | cbA1_RES_4_C
  | cbA2_RES_4_D
  | cbA3_RES_4_E
  | cbA4_RES_4_H
  | cbA5_RES_4_L
  | cbA6_RES_4_mHL
  | cbA7_RES_4_A
  | cbA8_RES_5_B
  | cbA9_RES_5_C
  | cbAA_RES_5_D
  | cbAB_RES_5_E
  | cbAC_RES_5_H
  | cbAD_RES_5_L
  | cbAE_RES_5_mHL
  | cbAF_RES_5_A
  | cbB0_RES_6_B
  | cbB1_RES_6_C
  | cbB2_RES_6_D
  | cbB3_RES_6_E
  | cbB4_RES_6_H
  | cbB5_RES_6_L
  | cbB6_RES_6_mHL
  | cbB7_RES_6_A
  | cbB8_RES_7_B
  | cbB9_RES_7_C
  | cbBA_RES_7_D
  | cbBB_RES_7_E
  | cbBC_RES_7_H
  | cbBD_RES_7_L
  | cbBE_RES_7_mHL
  | cbBF_RES_7_A
  | cbC0_SET_0_B
  | cbC1_SET_0_C
  | cbC2_SET_0_D
  | cbC3_SET_0_E
  | cbC4_SET_0_H
  | cbC5_SET_0_L
  | cbC6_SET_0_mHL
  | cbC7_SET_0_A
  | cbC8_SET_1_B
  | cbC9_SET_1_C
  | cbCA_SET_1_D
  | cbCB_SET_1_E
  | cbCC_SET_1_H
  | cbCD_SET_1_L
  | cbCE_SET_1_mHL
  | cbCF_SET_1_A
  | cbD0_SET_2_B
  | cbD1_SET_2_C
  | cbD2_SET_2_D
  | cbD3_SET_2_E
  | cbD4_SET_2_H
  | cbD5_SET_2_L
  | cbD6_SET_2_mHL
  | cbD7_SET_2_A
  | cbD8_SET_3_B
  | cbD9_SET_3_C
  | cbDA_SET_3_D
  | cbDB_SET_3_E
  | cbDC_SET_3_H
  | cbDD_SET_3_L
  | cbDE_SET_3_mHL
  | cbDF_SET_3_A
  | cbE0_SET_4_B
  | cbE1_SET_4_C
  | cbE2_SET_4_D
  | cbE3_SET_4_E
  | cbE4_SET_4_H
  | cbE5_SET_4_L
  | cbE6_SET_4_mHL
  | cbE7_SET_4_A
  | cbE8_SET_5_B
  | cbE9_SET_5_C
  | cbEA_SET_5_D
  | cbEB_SET_5_E
  | cbEC_SET_5_H
  | cbED_SET_5_L
  | cbEE_SET_5_mHL
  | cbEF_SET_5_A
  | cbF0_SET_6_B
  | cbF1_SET_6_C
  | cbF2_SET_6_D
  | cbF3_SET_6_E
  | cbF4_SET_6_H
  | cbF5_SET_6_L
  | cbF6_SET_6_mHL
  | cbF7_SET_6_A
  | cbF8_SET_7_B
  | cbF9_SET_7_C
  | cbFA_SET_7_D
  | cbFB_SET_7_E
  | cbFC_SET_7_H
  | cbFD_SET_7_L
  | cbFE_SET_7_mHL
  | cbFF_SET_7_A
  -- ED table: R3000 to R3255.
  | ed00_PLACEHOLDER
  | ed01_PLACEHOLDER
  | ed02_PLACEHOLDER
  | ed03_PLACEHOLDER
  | ed04_PLACEHOLDER
  | ed05_PLACEHOLDER
  | ed06_PLACEHOLDER
  | ed07_PLACEHOLDER
  | ed08_PLACEHOLDER
  | ed09_PLACEHOLDER
  | ed0A_PLACEHOLDER
  | ed0B_PLACEHOLDER
  | ed0C_PLACEHOLDER
  | ed0D_PLACEHOLDER
  | ed0E_PLACEHOLDER
  | ed0F_PLACEHOLDER
  | ed10_PLACEHOLDER
  | ed11_PLACEHOLDER
  | ed12_PLACEHOLDER
  | ed13_PLACEHOLDER
  | ed14_PLACEHOLDER
  | ed15_PLACEHOLDER
  | ed16_PLACEHOLDER
  | ed17_PLACEHOLDER
  | ed18_PLACEHOLDER
  | ed19_PLACEHOLDER
  | ed1A_PLACEHOLDER
  | ed1B_PLACEHOLDER
  | ed1C_PLACEHOLDER
  | ed1D_PLACEHOLDER
  | ed1E_PLACEHOLDER
  | ed1F_PLACEHOLDER
  | ed20_PLACEHOLDER
  | ed21_PLACEHOLDER
  | ed22_PLACEHOLDER
  | ed23_PLACEHOLDER
  | ed24_PLACEHOLDER
  | ed25_PLACEHOLDER
  | ed26_PLACEHOLDER
  | ed27_PLACEHOLDER
  | ed28_PLACEHOLDER
  | ed29_PLACEHOLDER
  | ed2A_PLACEHOLDER
  | ed2B_PLACEHOLDER
  | ed2C_PLACEHOLDER
  | ed2D_PLACEHOLDER
  | ed2E_PLACEHOLDER
  | ed2F_PLACEHOLDER
  | ed30_PLACEHOLDER
  | ed31_PLACEHOLDER
  | ed32_PLACEHOLDER
  | ed33_PLACEHOLDER
  | ed34_PLACEHOLDER
  | ed35_PLACEHOLDER
  | ed36_PLACEHOLDER
  | ed37_PLACEHOLDER
  | ed38_PLACEHOLDER
  | ed39_PLACEHOLDER
  | ed3A_PLACEHOLDER
  | ed3B_PLACEHOLDER
  | ed3C_PLACEHOLDER
  | ed3D_PLACEHOLDER
  | ed3E_PLACEHOLDER
  | ed3F_PLACEHOLDER
  | ed40_IN_B_mC
  | ed41_OUT_mC_B
  | ed42_SBC_HL_BC
  | ed43_LD_mnn_BC
  | ed44_NEG
  | ed45_RETN
  | ed46_IM_0
  | ed47_LD_I_A
  | ed48_IN_C_mC
  | ed49_OUT_mC_C
  | ed4A_ADC_HL_BC
  | ed4B_LD_BC_mnn
  | ed4C_NEG
  | ed4D_RETI
  | ed4E_IM_0
  | ed4F_LD_R_A
  | ed50_IN_D_mC
  | ed51_OUT_mC_D
  | ed52_SBC_HL_DE
  | ed53_LD_mnn_DE
  | ed54_NEG
  | ed55_RETN
  | ed56_IM_1
  | ed57_LD_A_I
  | ed58_IN_E_mC
  | ed59_OUT_mC_E
  | ed5A_ADC_HL_DE
  | ed5B_LD_DE_mnn
  | ed5C_NEG
  | ed5D_RETN
  | ed5E_IM_2
  | ed5F_LD_A_R
  | ed60_IN_H_mC
  | ed61_OUT_mC_H
  | ed62_SBC_HL_HL
  | ed63_LD_mnn_HL
  | ed64_NEG
  | ed65_RETN
  | ed66_IM_0
  | ed67_RRD
  | ed68_IN_L_mC
  | ed69_OUT_mC_L
  | ed6A_ADC_HL_HL
  | ed6B_LD_HL_mnn
  | ed6C_NEG
  | ed6D_RETN
  | ed6E_IM_0
  | ed6F_RLD
  | ed70_IN_mC
  | ed71_OUT_mC_0
  | ed72_SBC_HL_SP
  | ed73_LD_mnn_SP
  | ed74_NEG
  | ed75_RETN
  | ed76_IM_1
  | ed77_PLACEHOLDER
  | ed78_IN_A_mC
  | ed79_OUT_mC_A
  | ed7A_ADC_HL_SP
  | ed7B_LD_SP_mnn
  | ed7C_NEG
  | ed7D_RETN
  | ed7E_IM_2
  | ed7F_PLACEHOLDER
  | ed80_PLACEHOLDER
  | ed81_PLACEHOLDER
  | ed82_PLACEHOLDER
  | ed83_PLACEHOLDER
  | ed84_PLACEHOLDER
  | ed85_PLACEHOLDER
  | ed86_PLACEHOLDER
  | ed87_PLACEHOLDER
  | ed88_PLACEHOLDER
  | ed89_PLACEHOLDER
  | ed8A_PLACEHOLDER
  | ed8B_PLACEHOLDER
  | ed8C_PLACEHOLDER
  | ed8D_PLACEHOLDER
  | ed8E_PLACEHOLDER
  | ed8F_PLACEHOLDER
  | ed90_PLACEHOLDER
  | ed91_PLACEHOLDER
  | ed92_PLACEHOLDER
  | ed93_PLACEHOLDER
  | ed94_PLACEHOLDER
  | ed95_PLACEHOLDER
  | ed96_PLACEHOLDER
  | ed97_PLACEHOLDER
  | ed98_PLACEHOLDER
  | ed99_PLACEHOLDER
  | ed9A_PLACEHOLDER
  | ed9B_PLACEHOLDER
  | ed9C_PLACEHOLDER
  | ed9D_PLACEHOLDER
  | ed9E_PLACEHOLDER
  | ed9F_PLACEHOLDER
  | edA0_LDI
  | edA1_CPI
  | edA2_INI
  | edA3_OUTI
  | edA4_PLACEHOLDER
  | edA5_PLACEHOLDER
  | edA6_PLACEHOLDER
  | edA7_PLACEHOLDER
  | edA8_LDD
  | edA9_CPD
  | edAA_IND
  | edAB_OUTD
  | edAC_PLACEHOLDER
  | edAD_PLACEHOLDER
  | edAE_PLACEHOLDER
  | edAF_PLACEHOLDER
  | edB0_LDIR
  | edB1_CPIR
  | edB2_INIR
  | edB3_OTIR
  | edB4_PLACEHOLDER
  | edB5_PLACEHOLDER
  | edB6_PLACEHOLDER
  | edB7_PLACEHOLDER
  | edB8_LDDR
  | edB9_CPDR
  | edBA_INDR
  | edBB_OTDR
  | edBC_PLACEHOLDER
  | edBD_PLACEHOLDER
  | edBE_PLACEHOLDER
  | edBF_PLACEHOLDER
  | edC0_PLACEHOLDER
  | edC1_PLACEHOLDER
  | edC2_PLACEHOLDER
  | edC3_PLACEHOLDER
  | edC4_PLACEHOLDER
  | edC5_PLACEHOLDER
  | edC6_PLACEHOLDER
  | edC7_PLACEHOLDER
  | edC8_PLACEHOLDER
  | edC9_PLACEHOLDER
  | edCA_PLACEHOLDER
  | edCB_PLACEHOLDER
  | edCC_PLACEHOLDER
  | edCD_PLACEHOLDER
  | edCE_PLACEHOLDER
  | edCF_PLACEHOLDER
  | edD0_PLACEHOLDER
  | edD1_PLACEHOLDER
  | edD2_PLACEHOLDER
  | edD3_PLACEHOLDER
  | edD4_PLACEHOLDER
  | edD5_PLACEHOLDER
  | edD6_PLACEHOLDER
  | edD7_PLACEHOLDER
  | edD8_PLACEHOLDER
  | edD9_PLACEHOLDER
  | edDA_PLACEHOLDER
  | edDB_PLACEHOLDER
  | edDC_PLACEHOLDER
  | edDD_PLACEHOLDER
  | edDE_PLACEHOLDER
  | edDF_PLACEHOLDER
  | edE0_PLACEHOLDER
  | edE1_PLACEHOLDER
  | edE2_PLACEHOLDER
  | edE3_PLACEHOLDER
  | edE4_PLACEHOLDER
  | edE5_PLACEHOLDER
  | edE6_PLACEHOLDER
  | edE7_PLACEHOLDER
  | edE8_PLACEHOLDER
  | edE9_PLACEHOLDER
  | edEA_PLACEHOLDER
  | edEB_PLACEHOLDER
  | edEC_PLACEHOLDER
  | edED_PLACEHOLDER
  | edEE_PLACEHOLDER
  | edEF_PLACEHOLDER
  | edF0_PLACEHOLDER
  | edF1_PLACEHOLDER
  | edF2_PLACEHOLDER
  | edF3_PLACEHOLDER
  | edF4_PLACEHOLDER
  | edF5_PLACEHOLDER
  | edF6_PLACEHOLDER
  | edF7_PLACEHOLDER
  | edF8_PLACEHOLDER
  | edF9_PLACEHOLDER
  | edFA_PLACEHOLDER
  | edFB_PLACEHOLDER
  | edFC_PLACEHOLDER
  | edFD_PLACEHOLDER
  | edFE_PLACEHOLDER
  | edFF_PLACEHOLDER
  -- DD table (index register IX): R4000 to R4255.
  | dd00_NOP
  | dd01_LD_BC_nn
  | dd02_LD_mBC_A
  | dd03_INC_BC
  | dd04_INC_B
  | dd05_DEC_B
  | dd06_LD_B_n
  | dd07_RLCA
  | dd08_EX_AF_AFx
  | dd09_ADD_IX_BC
  | dd0A_LD_A_mBC
  | dd0B_DEC_BC
  | dd0C_INC_C
  | dd0D_DEC_C
  | dd0E_LD_C_n
  | dd0F_RRCA
  | dd10_DJNZ_e
  | dd11_LD_DE_nn
  | dd12_LD_mDE_A
  | dd13_INC_DE
  | dd14_INC_D
  | dd15_DEC_D
  | dd16_LD_D_n
  | dd17_RLA
  | dd18_JR_e
  | dd19_ADD_IX_DE
  | dd1A_LD_A_mDE
  | dd1B_DEC_DE
  | dd1C_INC_E
  | dd1D_DEC_E
  | dd1E_LD_E_n
  | dd1F_RRA
  | dd20_JR_NZ_e
  | dd21_LD_IX_nn
  | dd22_LD_mnn_IX
  | dd23_INC_IX
  | dd24_INC_IXH
  | dd25_DEC_IXH
  | dd26_LD_IXH_n
  | dd27_DAA
  | dd28_JR_Z_e
  | dd29_ADD_IX_IX
  | dd2A_LD_IX_mnn
  | dd2B_DEC_IX
  | dd2C_INC_IXL
  | dd2D_DEC_IXL
  | dd2E_LD_IXL_n
  | dd2F_CPL
  | dd30_JR_NC_e
  | dd31_LD_SP_nn
  | dd32_LD_mnn_A
  | dd33_INC_SP
  | dd34_INC_mIXd
  | dd35_DEC_mIXd
  | dd36_LD_mIXd_n
  | dd37_SCF
  | dd38_JR_C_e
  | dd39_ADD_IX_SP
  | dd3A_LD_A_mnn
  | dd3B_DEC_SP
  | dd3C_INC_A
  | dd3D_DEC_A
  | dd3E_LD_A_n
  | dd3F_CCF
  | dd40_LD_B_B
  | dd41_LD_B_C
  | dd42_LD_B_D
  | dd43_LD_B_E
  | dd44_LD_B_IXH
  | dd45_LD_B_IXL
  | dd46_LD_B_mIXd
  | dd47_LD_B_A
  | dd48_LD_C_B
  | dd49_LD_C_C
  | dd4A_LD_C_D
  | dd4B_LD_C_E
  | dd4C_LD_C_IXH
  | dd4D_LD_C_IXL
  | dd4E_LD_C_mIXd
  | dd4F_LD_C_A
  | dd50_LD_D_B
  | dd51_LD_D_C
  | dd52_LD_D_D
  | dd53_LD_D_E
  | dd54_LD_D_IXH
  | dd55_LD_D_IXL
  | dd56_LD_D_mIXd
  | dd57_LD_D_A
  | dd58_LD_E_B
  | dd59_LD_E_C
  | dd5A_LD_E_D
  | dd5B_LD_E_E
  | dd5C_LD_E_IXH
  | dd5D_LD_E_IXL
  | dd5E_LD_E_mIXd
  | dd5F_LD_E_A
  | dd60_LD_IXH_B
  | dd61_LD_IXH_C
  | dd62_LD_IXH_D
  | dd63_LD_IXH_E
  | dd64_LD_IXH_IXH
  | dd65_LD_IXH_IXL
  | dd66_LD_H_mIXd
  | dd67_LD_IXH_A
  | dd68_LD_IXL_B
  | dd69_LD_IXL_C
  | dd6A_LD_IXL_D
  | dd6B_LD_IXL_E
  | dd6C_LD_IXL_IXH
  | dd6D_LD_IXL_IXL
  | dd6E_LD_L_mIXd
  | dd6F_LD_IXL_A
  | dd70_LD_mIXd_B
  | dd71_LD_mIXd_C
  | dd72_LD_mIXd_D
  | dd73_LD_mIXd_E
  | dd74_LD_mIXd_H
  | dd75_LD_mIXd_L
  | dd76_HALT
  | dd77_LD_mIXd_A
  | dd78_LD_A_B
  | dd79_LD_A_C
  | dd7A_LD_A_D
  | dd7B_LD_A_E
  | dd7C_LD_A_IXH
  | dd7D_LD_A_IXL
  | dd7E_LD_A_mIXd
  | dd7F_LD_A_A
  | dd80_ADD_A_B
  | dd81_ADD_A_C
  | dd82_ADD_A_D
  | dd83_ADD_A_E
  | dd84_ADD_A_IXH
  | dd85_ADD_A_IXL
  | dd86_ADD_A_mIXd
  | dd87_ADD_A_A
  | dd88_ADC_A_B
  | dd89_ADC_A_C
  | dd8A_ADC_A_D
  | dd8B_ADC_A_E
  | dd8C_ADC_A_IXH
  | dd8D_ADC_A_IXL
  | dd8E_ADC_A_mIXd
  | dd8F_ADC_A_A
  | dd90_SUB_B
  | dd91_SUB_C
  | dd92_SUB_D
  | dd93_SUB_E
  | dd94_SUB_IXH
  | dd95_SUB_IXL
  | dd96_SUB_mIXd
  | dd97_SUB_A
  | dd98_SBC_A_B
  | dd99_SBC_A_C
  | dd9A_SBC_A_D
  | dd9B_SBC_A_E
  | dd9C_SBC_A_IXH
  | dd9D_SBC_A_IXL
  | dd9E_SBC_A_mIXd
  | dd9F_SBC_A_A
  | ddA0_AND_B
  | ddA1_AND_C
  | ddA2_AND_D
  | ddA3_AND_E
  | ddA4_AND_IXH
  | ddA5_AND_IXL
  | ddA6_AND_mIXd
  | ddA7_AND_A
  | ddA8_XOR_B
  | ddA9_XOR_C
  | ddAA_XOR_D
  | ddAB_XOR_E
  | ddAC_XOR_IXH
  | ddAD_XOR_IXL
  | ddAE_XOR_mIXd
  | ddAF_XOR_A
  | ddB0_OR_B
  | ddB1_OR_C
  | ddB2_OR_D
  | ddB3_OR_E
  | ddB4_OR_IXH
  | ddB5_OR_IXL
  | ddB6_OR_mIXd
  | ddB7_OR_A
  | ddB8_CP_B
  | ddB9_CP_C
  | ddBA_CP_D
  | ddBB_CP_E
  | ddBC_CP_IXH
  | ddBD_CP_IXL
  | ddBE_CP_mIXd
  | ddBF_CP_A
  | ddC0_RET_NZ
  | ddC1_POP_BC
  | ddC2_JP_NZ_nn
  | ddC3_JP_nn
  | ddC4_CALL_NZ_nn
  | ddC5_PUSH_BC
  | ddC6_ADD_A_n
  | ddC7_RST_00H
  | ddC8_RET_Z
  | ddC9_RET
  | ddCA_JP_Z_nn
  | ddCB_PREFIX_DDCB
  | ddCC_CALL_Z_nn
  | ddCD_CALL_nn
  | ddCE_ADC_A_n
  | ddCF_RST_08H
  | ddD0_RET_NC
  | ddD1_POP_DE
  | ddD2_JP_NC_nn
  | ddD3_OUT_mn_A
  | ddD4_CALL_NC_nn
  | ddD5_PUSH_DE
  | ddD6_SUB_n
  | ddD7_RST_10H
  | ddD8_RET_C
  | ddD9_EXX
  | ddDA_JP_C_nn
  | ddDB_IN_A_mn
  | ddDC_CALL_C_nn
  | ddDD_PLACEHOLDER
  | ddDE_SBC_A_n
  | ddDF_RST_18H
  | ddE0_RET_PO
  | ddE1_POP_IX
  | ddE2_JP_PO_nn
  | ddE3_EX_mSP_IX
  | ddE4_CALL_PO_nn
  | ddE5_PUSH_IX
  | ddE6_AND_n
  | ddE7_RST_20H
  | ddE8_RET_PE
  | ddE9_JP_mIX
  | ddEA_JP_PE_nn
  | ddEB_EX_DE_HL
  | ddEC_CALL_PE_nn
  | ddED_PLACEHOLDER
  | ddEE_XOR_n
  | ddEF_RST_28H
  | ddF0_RET_P
  | ddF1_POP_AF
  | ddF2_JP_P_nn
  | ddF3_DI
  | ddF4_CALL_P_nn
  | ddF5_PUSH_AF
  | ddF6_OR_n
  | ddF7_RST_30H
  | ddF8_RET_M
  | ddF9_LD_SP_IX
  | ddFA_JP_M_nn
  | ddFB_EI
  | ddFC_CALL_M_nn
  | ddFD_PLACEHOLDER
  | ddFE_CP_n
  | ddFF_RST_38H
  -- FD table (index register IY): R5000 to R5255.
  | fd00_NOP
  | fd01_LD_BC_nn
  | fd02_LD_mBC_A
  | fd03_INC_BC
  | fd04_INC_B
  | fd05_DEC_B
  | fd06_LD_B_n
  | fd07_RLCA
  | fd08_EX_AF_AFx
  | fd09_ADD_IY_BC
  | fd0A_LD_A_mBC
  | fd0B_DEC_BC
  | fd0C_INC_C
  | fd0D_DEC_C
  | fd0E_LD_C_n
  | fd0F_RRCA
  | fd10_DJNZ_e
  | fd11_LD_DE_nn
  | fd12_LD_mDE_A
  | fd13_INC_DE
  | fd14_INC_D
  | fd15_DEC_D
  | fd16_LD_D_n
  | fd17_RLA
  | fd18_JR_e
  | fd19_ADD_IY_DE
  | fd1A_LD_A_mDE
  | fd1B_DEC_DE
  | fd1C_INC_E
  | fd1D_DEC_E
  | fd1E_LD_E_n
  | fd1F_RRA
  | fd20_JR_NZ_e
  | fd21_LD_IY_nn
  | fd22_LD_mnn_IY
  | fd23_INC_IY
  | fd24_INC_IYH
  | fd25_DEC_IYH
  | fd26_LD_IYH_n
  | fd27_DAA
  | fd28_JR_Z_e
  | fd29_ADD_IY_IY
  | fd2A_LD_IY_mnn
  | fd2B_DEC_IY
  | fd2C_INC_IYL
  | fd2D_DEC_IYL
  | fd2E_LD_IYL_n
  | fd2F_CPL
  | fd30_JR_NC_e
  | fd31_LD_SP_nn
  | fd32_LD_mnn_A
  | fd33_INC_SP
  | fd34_INC_mIYd
  | fd35_DEC_mIYd
  | fd36_LD_mIYd_n
  | fd37_SCF
  | fd38_JR_C_e
  | fd39_ADD_IY_SP
  | fd3A_LD_A_mnn
  | fd3B_DEC_SP
  | fd3C_INC_A
  | fd3D_DEC_A
  | fd3E_LD_A_n
  | fd3F_CCF
  | fd40_LD_B_B
  | fd41_LD_B_C
  | fd42_LD_B_D
  | fd43_LD_B_E
  | fd44_LD_B_IYH
  | fd45_LD_B_IYL
  | fd46_LD_B_mIYd
  | fd47_LD_B_A
  | fd48_LD_C_B
  | fd49_LD_C_C
  | fd4A_LD_C_D
  | fd4B_LD_C_E
  | fd4C_LD_C_IYH
  | fd4D_LD_C_IYL
  | fd4E_LD_C_mIYd
  | fd4F_LD_C_A
  | fd50_LD_D_B
  | fd51_LD_D_C
  | fd52_LD_D_D
  | fd53_LD_D_E
  | fd54_LD_D_IYH
  | fd55_LD_D_IYL
  | fd56_LD_D_mIYd
  | fd57_LD_D_A
  | fd58_LD_E_B
  | fd59_LD_E_C
  | fd5A_LD_E_D
  | fd5B_LD_E_E
  | fd5C_LD_E_IYH
  | fd5D_LD_E_IYL
  | fd5E_LD_E_mIYd
  | fd5F_LD_E_A
  | fd60_LD_IYH_B
  | fd61_LD_IYH_C
  | fd62_LD_IYH_D
  | fd63_LD_IYH_E
  | fd64_LD_IYH_IYH
  | fd65_LD_IYH_IYL
  | fd66_LD_H_mIYd
  | fd67_LD_IYH_A
  | fd68_LD_IYL_B
  | fd69_LD_IYL_C
  | fd6A_LD_IYL_D
  | fd6B_LD_IYL_E
  | fd6C_LD_IYL_IYH
  | fd6D_LD_IYL_IYL
  | fd6E_LD_L_mIYd
  | fd6F_LD_IYL_A
  | fd70_LD_mIYd_B
  | fd71_LD_mIYd_C
  | fd72_LD_mIYd_D
  | fd73_LD_mIYd_E
  | fd74_LD_mIYd_H
  | fd75_LD_mIYd_L
  | fd76_HALT
  | fd77_LD_mIYd_A
  | fd78_LD_A_B
  | fd79_LD_A_C
  | fd7A_LD_A_D
  | fd7B_LD_A_E
  | fd7C_LD_A_IYH
  | fd7D_LD_A_IYL
  | fd7E_LD_A_mIYd
  | fd7F_LD_A_A
  | fd80_ADD_A_B
  | fd81_ADD_A_C
  | fd82_ADD_A_D
  | fd83_ADD_A_E
  | fd84_ADD_A_IYH
  | fd85_ADD_A_IYL
  | fd86_ADD_A_mIYd
  | fd87_ADD_A_A
  | fd88_ADC_A_B
  | fd89_ADC_A_C
  | fd8A_ADC_A_D
  | fd8B_ADC_A_E
  | fd8C_ADC_A_IYH
  | fd8D_ADC_A_IYL
  | fd8E_ADC_A_mIYd
  | fd8F_ADC_A_A
  | fd90_SUB_B
  | fd91_SUB_C
  | fd92_SUB_D
  | fd93_SUB_E
  | fd94_SUB_IYH
  | fd95_SUB_IYL
  | fd96_SUB_mIYd
  | fd97_SUB_A
  | fd98_SBC_A_B
  | fd99_SBC_A_C
  | fd9A_SBC_A_D
  | fd9B_SBC_A_E
  | fd9C_SBC_A_IYH
  | fd9D_SBC_A_IYL
  | fd9E_SBC_A_mIYd
  | fd9F_SBC_A_A
  | fdA0_AND_B
  | fdA1_AND_C
  | fdA2_AND_D
  | fdA3_AND_E
  | fdA4_AND_IYH
  | fdA5_AND_IYL
  | fdA6_AND_mIYd
  | fdA7_AND_A
  | fdA8_XOR_B
  | fdA9_XOR_C
  | fdAA_XOR_D
  | fdAB_XOR_E
  | fdAC_XOR_IYH
  | fdAD_XOR_IYL
  | fdAE_XOR_mIYd
  | fdAF_XOR_A
  | fdB0_OR_B
  | fdB1_OR_C
  | fdB2_OR_D
  | fdB3_OR_E
  | fdB4_OR_IYH
  | fdB5_OR_IYL
  | fdB6_OR_mIYd
  | fdB7_OR_A
  | fdB8_CP_B
  | fdB9_CP_C
  | fdBA_CP_D
  | fdBB_CP_E
  | fdBC_CP_IYH
  | fdBD_CP_IYL
  | fdBE_CP_mIYd
  | fdBF_CP_A
  | fdC0_RET_NZ
  | fdC1_POP_BC
  | fdC2_JP_NZ_nn
  | fdC3_JP_nn
  | fdC4_CALL_NZ_nn
  | fdC5_PUSH_BC
  | fdC6_ADD_A_n
  | fdC7_RST_00H
  | fdC8_RET_Z
  | fdC9_RET
  | fdCA_JP_Z_nn
  | fdCB_PREFIX_FDCB
  | fdCC_CALL_Z_nn
  | fdCD_CALL_nn
  | fdCE_ADC_A_n
  | fdCF_RST_08H
  | fdD0_RET_NC
  | fdD1_POP_DE
  | fdD2_JP_NC_nn
  | fdD3_OUT_mn_A
  | fdD4_CALL_NC_nn
  | fdD5_PUSH_DE
  | fdD6_SUB_n
  | fdD7_RST_10H
  | fdD8_RET_C
  | fdD9_EXX
  | fdDA_JP_C_nn
  | fdDB_IN_A_mn
  | fdDC_CALL_C_nn
  | fdDD_PLACEHOLDER
  | fdDE_SBC_A_n
  | fdDF_RST_18H
  | fdE0_RET_PO
  | fdE1_POP_IY
  | fdE2_JP_PO_nn
  | fdE3_EX_mSP_IY
  | fdE4_CALL_PO_nn
  | fdE5_PUSH_IY
  | fdE6_AND_n
  | fdE7_RST_20H
  | fdE8_RET_PE
  | fdE9_JP_mIY
  | fdEA_JP_PE_nn
  | fdEB_EX_DE_HL
  | fdEC_CALL_PE_nn
  | fdED_PLACEHOLDER
  | fdEE_XOR_n
  | fdEF_RST_28H
  | fdF0_RET_P
  | fdF1_POP_AF
  | fdF2_JP_P_nn
  | fdF3_DI
  | fdF4_CALL_P_nn
  | fdF5_PUSH_AF
  | fdF6_OR_n
  | fdF7_RST_30H
  | fdF8_RET_M
  | fdF9_LD_SP_IY
  | fdFA_JP_M_nn
  | fdFB_EI
  | fdFC_CALL_M_nn
  | fdFD_PLACEHOLDER
  | fdFE_CP_n
  | fdFF_RST_38H
  -- DD CB displaced table: R6000 to R6255.
  | ddcb00_RLC_mIXd_B
  | ddcb01_RLC_mIXd_C
  | ddcb02_RLC_mIXd_D
  | ddcb03_RLC_mIXd_E
  | ddcb04_RLC_mIXd_H
  | ddcb05_RLC_mIXd_L
  | ddcb06_RLC_mIXd
  | ddcb07_RLC_mIXd_A
  | ddcb08_RRC_mIXd_B
  | ddcb09_RRC_mIXd_C
  | ddcb0A_RRC_mIXd_D
  | ddcb0B_RRC_mIXd_E
  | ddcb0C_RRC_mIXd_H
  | ddcb0D_RRC_mIXd_L
  | ddcb0E_RRC_mIXd
  | ddcb0F_RRC_mIXd_A
  | ddcb10_RL_mIXd_B
  | ddcb11_RL_mIXd_C
  | ddcb12_RL_mIXd_D
  | ddcb13_RL_mIXd_E
  | ddcb14_RL_mIXd_H
  | ddcb15_RL_mIXd_L
  | ddcb16_RL_mIXd
  | ddcb17_RL_mIXd_A
  | ddcb18_RR_mIXd_B
  | ddcb19_RR_mIXd_C
  | ddcb1A_RR_mIXd_D
  | ddcb1B_RR_mIXd_E
  | ddcb1C_RR_mIXd_H
  | ddcb1D_RR_mIXd_L
  | ddcb1E_RR_mIXd
  | ddcb1F_RR_mIXd_A
  | ddcb20_SLA_mIXd_B
  | ddcb21_SLA_mIXd_C
  | ddcb22_SLA_mIXd_D
  | ddcb23_SLA_mIXd_E
  | ddcb24_SLA_mIXd_H
  | ddcb25_SLA_mIXd_L
  | ddcb26_SLA_mIXd
  | ddcb27_SLA_mIXd_A
  | ddcb28_SRA_mIXd_B
  | ddcb29_SRA_mIXd_C
  | ddcb2A_SRA_mIXd_D
  | ddcb2B_SRA_mIXd_E
  | ddcb2C_SRA_mIXd_H
  | ddcb2D_SRA_mIXd_L
  | ddcb2E_SRA_mIXd
  | ddcb2F_SRA_mIXd_A
  | ddcb30_SLL_mIXd_B
  | ddcb31_SLL_mIXd_C
  | ddcb32_SLL_mIXd_D
  | ddcb33_SLL_mIXd_E
  | ddcb34_SLL_mIXd_H
  | ddcb35_SLL_mIXd_L
  | ddcb36_SLL_mIXd
  | ddcb37_SLL_mIXd_A
  | ddcb38_SRL_mIXd_B
  | ddcb39_SRL_mIXd_C
  | ddcb3A_SRL_mIXd_D
  | ddcb3B_SRL_mIXd_E
  | ddcb3C_SRL_mIXd_H
  | ddcb3D_SRL_mIXd_L
  | ddcb3E_SRL_mIXd
  | ddcb3F_SRL_mIXd_A
  | ddcb40_BIT_0_mIXd
  | ddcb41_BIT_0_mIXd
  | ddcb42_BIT_0_mIXd
  | ddcb43_BIT_0_mIXd
  | ddcb44_BIT_0_mIXd
  | ddcb45_BIT_0_mIXd
  | ddcb46_BIT_0_mIXd
  | ddcb47_BIT_0_mIXd
  | ddcb48_BIT_1_mIXd
  | ddcb49_BIT_1_mIXd
  | ddcb4A_BIT_1_mIXd
  | ddcb4B_BIT_1_mIXd
  | ddcb4C_BIT_1_mIXd
  | ddcb4D_BIT_1_mIXd
  | ddcb4E_BIT_1_mIXd
  | ddcb4F_BIT_1_mIXd
  | ddcb50_BIT_2_mIXd
  | ddcb51_BIT_2_mIXd
  | ddcb52_BIT_2_mIXd
  | ddcb53_BIT_2_mIXd
  | ddcb54_BIT_2_mIXd
  | ddcb55_BIT_2_mIXd
  | ddcb56_BIT_2_mIXd
  | ddcb57_BIT_2_mIXd
  | ddcb58_BIT_3_mIXd
  | ddcb59_BIT_3_mIXd
  | ddcb5A_BIT_3_mIXd
  | ddcb5B_BIT_3_mIXd
  | ddcb5C_BIT_3_mIXd
  | ddcb5D_BIT_3_mIXd
  | ddcb5E_BIT_3_mIXd
  | ddcb5F_BIT_3_mIXd
  | ddcb60_BIT_4_mIXd
  | ddcb61_BIT_4_mIXd
  | ddcb62_BIT_4_mIXd
  | ddcb63_BIT_4_mIXd
  | ddcb64_BIT_4_mIXd
  | ddcb65_BIT_4_mIXd
  | ddcb66_BIT_4_mIXd
  | ddcb67_BIT_4_mIXd
  | ddcb68_BIT_5_mIXd
  | ddcb69_BIT_5_mIXd
  | ddcb6A_BIT_5_mIXd
  | ddcb6B_BIT_5_mIXd
  | ddcb6C_BIT_5_mIXd
  | ddcb6D_BIT_5_mIXd
  | ddcb6E_BIT_5_mIXd
  | ddcb6F_BIT_5_mIXd
  | ddcb70_BIT_6_mIXd
  | ddcb71_BIT_6_mIXd
  | ddcb72_BIT_6_mIXd
  | ddcb73_BIT_6_mIXd
  | ddcb74_BIT_6_mIXd
  | ddcb75_BIT_6_mIXd
  | ddcb76_BIT_6_mIXd
  | ddcb77_BIT_6_mIXd
  | ddcb78_BIT_7_mIXd
  | ddcb79_BIT_7_mIXd
  | ddcb7A_BIT_7_mIXd
  | ddcb7B_BIT_7_mIXd
  | ddcb7C_BIT_7_mIXd
  | ddcb7D_BIT_7_mIXd
  | ddcb7E_BIT_7_mIXd
  | ddcb7F_BIT_7_mIXd
  | ddcb80_RES_0_mIXd_B
  | ddcb81_RES_0_mIXd_C
  | ddcb82_RES_0_mIXd_D
  | ddcb83_RES_0_mIXd_E
  | ddcb84_RES_0_mIXd_H
  | ddcb85_RES_0_mIXd_L
  | ddcb86_RES_0_mIXd
  | ddcb87_RES_0_mIXd_A
  | ddcb88_RES_1_mIXd_B
  | ddcb89_RES_1_mIXd_C
  | ddcb8A_RES_1_mIXd_D
  | ddcb8B_RES_1_mIXd_E
  | ddcb8C_RES_1_mIXd_H
  | ddcb8D_RES_1_mIXd_L
  | ddcb8E_RES_1_mIXd
  | ddcb8F_RES_1_mIXd_A
  | ddcb90_RES_2_mIXd_B
  | ddcb91_RES_2_mIXd_C
  | ddcb92_RES_2_mIXd_D
  | ddcb93_RES_2_mIXd_E
  | ddcb94_RES_2_mIXd_H
  | ddcb95_RES_2_mIXd_L
  | ddcb96_RES_2_mIXd
  | ddcb97_RES_2_mIXd_A
  | ddcb98_RES_3_mIXd_B
  | ddcb99_RES_3_mIXd_C
  | ddcb9A_RES_3_mIXd_D
  | ddcb9B_RES_3_mIXd_E
  | ddcb9C_RES_3_mIXd_H
  | ddcb9D_RES_3_mIXd_L
  | ddcb9E_RES_3_mIXd
  | ddcb9F_RES_3_mIXd_A
  | ddcbA0_RES_4_mIXd_B
  | ddcbA1_RES_4_mIXd_C
  | ddcbA2_RES_4_mIXd_D
  | ddcbA3_RES_4_mIXd_E
  | ddcbA4_RES_4_mIXd_H
  | ddcbA5_RES_4_mIXd_L
  | ddcbA6_RES_4_mIXd
  | ddcbA7_RES_4_mIXd_A
  | ddcbA8_RES_5_mIXd_B
  | ddcbA9_RES_5_mIXd_C
  | ddcbAA_RES_5_mIXd_D
  | ddcbAB_RES_5_mIXd_E
  | ddcbAC_RES_5_mIXd_H
  | ddcbAD_RES_5_mIXd_L
  | ddcbAE_RES_5_mIXd
  | ddcbAF_RES_5_mIXd_A
  | ddcbB0_RES_6_mIXd_B
  | ddcbB1_RES_6_mIXd_C
  | ddcbB2_RES_6_mIXd_D
  | ddcbB3_RES_6_mIXd_E
  | ddcbB4_RES_6_mIXd_H
  | ddcbB5_RES_6_mIXd_L
  | ddcbB6_RES_6_mIXd
  | ddcbB7_RES_6_mIXd_A
  | ddcbB8_RES_7_mIXd_B
  | ddcbB9_RES_7_mIXd_C
  | ddcbBA_RES_7_mIXd_D
  | ddcbBB_RES_7_mIXd_E
  | ddcbBC_RES_7_mIXd_H
  | ddcbBD_RES_7_mIXd_L
  | ddcbBE_RES_7_mIXd
  | ddcbBF_RES_7_mIXd_A
  | ddcbC0_SET_0_mIXd_B
  | ddcbC1_SET_0_mIXd_C
  | ddcbC2_SET_0_mIXd_D
  | ddcbC3_SET_0_mIXd_E
  | ddcbC4_SET_0_mIXd_H
  | ddcbC5_SET_0_mIXd_L
  | ddcbC6_SET_0_mIXd
  | ddcbC7_SET_0_mIXd_A
  | ddcbC8_SET_1_mIXd_B
  | ddcbC9_SET_1_mIXd_C
  | ddcbCA_SET_1_mIXd_D
  | ddcbCB_SET_1_mIXd_E
  | ddcbCC_SET_1_mIXd_H
  | ddcbCD_SET_1_mIXd_L
  | ddcbCE_SET_1_mIXd
  | ddcbCF_SET_1_mIXd_A
  | ddcbD0_SET_2_mIXd_B
  | ddcbD1_SET_2_mIXd_C
  | ddcbD2_SET_2_mIXd_D
  | ddcbD3_SET_2_mIXd_E
  | ddcbD4_SET_2_mIXd_H
  | ddcbD5_SET_2_mIXd_L
  | ddcbD6_SET_2_mIXd
  | ddcbD7_SET_2_mIXd_A
  | ddcbD8_SET_3_mIXd_B
  | ddcbD9_SET_3_mIXd_C
  | ddcbDA_SET_3_mIXd_D
  | ddcbDB_SET_3_mIXd_E
  | ddcbDC_SET_3_mIXd_H
  | ddcbDD_SET_3_mIXd_L
  | ddcbDE_SET_3_mIXd
  | ddcbDF_SET_3_mIXd_A
  | ddcbE0_SET_4_mIXd_B
  | ddcbE1_SET_4_mIXd_C
  | ddcbE2_SET_4_mIXd_D
  | ddcbE3_SET_4_mIXd_E
  | ddcbE4_SET_4_mIXd_H
  | ddcbE5_SET_4_mIXd_L
  | ddcbE6_SET_4_mIXd
  | ddcbE7_SET_4_mIXd_A
  | ddcbE8_SET_5_mIXd_B
  | ddcbE9_SET_5_mIXd_C
  | ddcbEA_SET_5_mIXd_D
  | ddcbEB_SET_5_mIXd_E
  | ddcbEC_SET_5_mIXd_H
  | ddcbED_SET_5_mIXd_L
  | ddcbEE_SET_5_mIXd
  | ddcbEF_SET_5_mIXd_A
  | ddcbF0_SET_6_mIXd_B
  | ddcbF1_SET_6_mIXd_C
  | ddcbF2_SET_6_mIXd_D
  | ddcbF3_SET_6_mIXd_E
  | ddcbF4_SET_6_mIXd_H
  | ddcbF5_SET_6_mIXd_L
  | ddcbF6_SET_6_mIXd
  | ddcbF7_SET_6_mIXd_A
  | ddcbF8_SET_7_mIXd_B
  | ddcbF9_SET_7_mIXd_C
  | ddcbFA_SET_7_mIXd_D
  | ddcbFB_SET_7_mIXd_E
  | ddcbFC_SET_7_mIXd_H
  | ddcbFD_SET_7_mIXd_L
  | ddcbFE_SET_7_mIXd
  | ddcbFF_SET_7_mIXd_A
  -- FD CB displaced table: R7000 to R7255.
  | fdcb00_RLC_mIYd_B
  | fdcb01_RLC_mIYd_C
  | fdcb02_RLC_mIYd_D
  | fdcb03_RLC_mIYd_E
  | fdcb04_RLC_mIYd_H
  | fdcb05_RLC_mIYd_L
  | fdcb06_RLC_mIYd
  | fdcb07_RLC_mIYd_A
  | fdcb08_RRC_mIYd_B
  | fdcb09_RRC_mIYd_C
  | fdcb0A_RRC_mIYd_D
  | fdcb0B_RRC_mIYd_E
  | fdcb0C_RRC_mIYd_H
  | fdcb0D_RRC_mIYd_L
  | fdcb0E_RRC_mIYd
  | fdcb0F_RRC_mIYd_A
  | fdcb10_RL_mIYd_B
  | fdcb11_RL_mIYd_C
  | fdcb12_RL_mIYd_D
  | fdcb13_RL_mIYd_E
  | fdcb14_RL_mIYd_H
  | fdcb15_RL_mIYd_L
  | fdcb16_RL_mIYd
  | fdcb17_RL_mIYd_A
  | fdcb18_RR_mIYd_B
  | fdcb19_RR_mIYd_C
  | fdcb1A_RR_mIYd_D
  | fdcb1B_RR_mIYd_E
  | fdcb1C_RR_mIYd_H
  | fdcb1D_RR_mIYd_L
  | fdcb1E_RR_mIYd
  | fdcb1F_RR_mIYd_A
  | fdcb20_SLA_mIYd_B
  | fdcb21_SLA_mIYd_C
  | fdcb22_SLA_mIYd_D
  | fdcb23_SLA_mIYd_E
  | fdcb24_SLA_mIYd_H
  | fdcb25_SLA_mIYd_L
  | fdcb26_SLA_mIYd
  | fdcb27_SLA_mIYd_A
  | fdcb28_SRA_mIYd_B
  | fdcb29_SRA_mIYd_C
  | fdcb2A_SRA_mIYd_D
  | fdcb2B_SRA_mIYd_E
  | fdcb2C_SRA_mIYd_H
  | fdcb2D_SRA_mIYd_L
  | fdcb2E_SRA_mIYd
  | fdcb2F_SRA_mIYd_A
  | fdcb30_SLL_mIYd_B
  | fdcb31_SLL_mIYd_C
  | fdcb32_SLL_mIYd_D
  | fdcb33_SLL_mIYd_E
  | fdcb34_SLL_mIYd_H
  | fdcb35_SLL_mIYd_L
  | fdcb36_SLL_mIYd
  | fdcb37_SLL_mIYd_A
  | fdcb38_SRL_mIYd_B
  | fdcb39_SRL_mIYd_C
  | fdcb3A_SRL_mIYd_D
  | fdcb3B_SRL_mIYd_E
  | fdcb3C_SRL_mIYd_H
  | fdcb3D_SRL_mIYd_L
  | fdcb3E_SRL_mIYd
  | fdcb3F_SRL_mIYd_A
  | fdcb40_BIT_0_mIYd
  | fdcb41_BIT_0_mIYd
  | fdcb42_BIT_0_mIYd
  | fdcb43_BIT_0_mIYd
  | fdcb44_BIT_0_mIYd
  | fdcb45_BIT_0_mIYd
  | fdcb46_BIT_0_mIYd
  | fdcb47_BIT_0_mIYd
  | fdcb48_BIT_1_mIYd
  | fdcb49_BIT_1_mIYd
  | fdcb4A_BIT_1_mIYd
  | fdcb4B_BIT_1_mIYd
  | fdcb4C_BIT_1_mIYd
  | fdcb4D_BIT_1_mIYd
  | fdcb4E_BIT_1_mIYd
  | fdcb4F_BIT_1_mIYd
  | fdcb50_BIT_2_mIYd
  | fdcb51_BIT_2_mIYd
  | fdcb52_BIT_2_mIYd
  | fdcb53_BIT_2_mIYd
  | fdcb54_BIT_2_mIYd
  | fdcb55_BIT_2_mIYd
  | fdcb56_BIT_2_mIYd
  | fdcb57_BIT_2_mIYd
  | fdcb58_BIT_3_mIYd
  | fdcb59_BIT_3_mIYd
  | fdcb5A_BIT_3_mIYd
  | fdcb5B_BIT_3_mIYd
  | fdcb5C_BIT_3_mIYd
  | fdcb5D_BIT_3_mIYd
  | fdcb5E_BIT_3_mIYd
  | fdcb5F_BIT_3_mIYd
  | fdcb60_BIT_4_mIYd
  | fdcb61_BIT_4_mIYd
  | fdcb62_BIT_4_mIYd
  | fdcb63_BIT_4_mIYd
  | fdcb64_BIT_4_mIYd
  | fdcb65_BIT_4_mIYd
  | fdcb66_BIT_4_mIYd
  | fdcb67_BIT_4_mIYd
  | fdcb68_BIT_5_mIYd
  | fdcb69_BIT_5_mIYd
  | fdcb6A_BIT_5_mIYd
  | fdcb6B_BIT_5_mIYd
  | fdcb6C_BIT_5_mIYd
  | fdcb6D_BIT_5_mIYd
  | fdcb6E_BIT_5_mIYd
  | fdcb6F_BIT_5_mIYd
  | fdcb70_BIT_6_mIYd
  | fdcb71_BIT_6_mIYd
  | fdcb72_BIT_6_mIYd
  | fdcb73_BIT_6_mIYd
  | fdcb74_BIT_6_mIYd
  | fdcb75_BIT_6_mIYd
  | fdcb76_BIT_6_mIYd
  | fdcb77_BIT_6_mIYd
  | fdcb78_BIT_7_mIYd
  | fdcb79_BIT_7_mIYd
  | fdcb7A_BIT_7_mIYd
  | fdcb7B_BIT_7_mIYd
  | fdcb7C_BIT_7_mIYd
  | fdcb7D_BIT_7_mIYd
  | fdcb7E_BIT_7_mIYd
  | fdcb7F_BIT_7_mIYd
  | fdcb80_RES_0_mIYd_B
  | fdcb81_RES_0_mIYd_C
  | fdcb82_RES_0_mIYd_D
  | fdcb83_RES_0_mIYd_E
  | fdcb84_RES_0_mIYd_H
  | fdcb85_RES_0_mIYd_L
  | fdcb86_RES_0_mIYd
  | fdcb87_RES_0_mIYd_A
  | fdcb88_RES_1_mIYd_B
  | fdcb89_RES_1_mIYd_C
  | fdcb8A_RES_1_mIYd_D
  | fdcb8B_RES_1_mIYd_E
  | fdcb8C_RES_1_mIYd_H
  | fdcb8D_RES_1_mIYd_L
  | fdcb8E_RES_1_mIYd
  | fdcb8F_RES_1_mIYd_A
  | fdcb90_RES_2_mIYd_B
  | fdcb91_RES_2_mIYd_C
  | fdcb92_RES_2_mIYd_D
  | fdcb93_RES_2_mIYd_E
  | fdcb94_RES_2_mIYd_H
  | fdcb95_RES_2_mIYd_L
  | fdcb96_RES_2_mIYd
  | fdcb97_RES_2_mIYd_A
  | fdcb98_RES_3_mIYd_B
  | fdcb99_RES_3_mIYd_C
  | fdcb9A_RES_3_mIYd_D
  | fdcb9B_RES_3_mIYd_E
  | fdcb9C_RES_3_mIYd_H
  | fdcb9D_RES_3_mIYd_L
  | fdcb9E_RES_3_mIYd
  | fdcb9F_RES_3_mIYd_A
  | fdcbA0_RES_4_mIYd_B
  | fdcbA1_RES_4_mIYd_C
  | fdcbA2_RES_4_mIYd_D
  | fdcbA3_RES_4_mIYd_E
  | fdcbA4_RES_4_mIYd_H
  | fdcbA5_RES_4_mIYd_L
  | fdcbA6_RES_4_mIYd
  | fdcbA7_RES_4_mIYd_A
  | fdcbA8_RES_5_mIYd_B
  | fdcbA9_RES_5_mIYd_C
  | fdcbAA_RES_5_mIYd_D
  | fdcbAB_RES_5_mIYd_E
  | fdcbAC_RES_5_mIYd_H
  | fdcbAD_RES_5_mIYd_L
  | fdcbAE_RES_5_mIYd
  | fdcbAF_RES_5_mIYd_A
  | fdcbB0_RES_6_mIYd_B
  | fdcbB1_RES_6_mIYd_C
  | fdcbB2_RES_6_mIYd_D
  | fdcbB3_RES_6_mIYd_E
  | fdcbB4_RES_6_mIYd_H
  | fdcbB5_RES_6_mIYd_L
  | fdcbB6_RES_6_mIYd
  | fdcbB7_RES_6_mIYd_A
  | fdcbB8_RES_7_mIYd_B
  | fdcbB9_RES_7_mIYd_C
  | fdcbBA_RES_7_mIYd_D
  | fdcbBB_RES_7_mIYd_E
  | fdcbBC_RES_7_mIYd_H
  | fdcbBD_RES_7_mIYd_L
  | fdcbBE_RES_7_mIYd
  | fdcbBF_RES_7_mIYd_A
  | fdcbC0_SET_0_mIYd_B
  | fdcbC1_SET_0_mIYd_C
  | fdcbC2_SET_0_mIYd_D
  | fdcbC3_SET_0_mIYd_E
  | fdcbC4_SET_0_mIYd_H
  | fdcbC5_SET_0_mIYd_L
  | fdcbC6_SET_0_mIYd
  | fdcbC7_SET_0_mIYd_A
  | fdcbC8_SET_1_mIYd_B
  | fdcbC9_SET_1_mIYd_C
  | fdcbCA_SET_1_mIYd_D
  | fdcbCB_SET_1_mIYd_E
  | fdcbCC_SET_1_mIYd_H
  | fdcbCD_SET_1_mIYd_L
  | fdcbCE_SET_1_mIYd
  | fdcbCF_SET_1_mIYd_A
  | fdcbD0_SET_2_mIYd_B
  | fdcbD1_SET_2_mIYd_C
  | fdcbD2_SET_2_mIYd_D
  | fdcbD3_SET_2_mIYd_E
  | fdcbD4_SET_2_mIYd_H
  | fdcbD5_SET_2_mIYd_L
  | fdcbD6_SET_2_mIYd
  | fdcbD7_SET_2_mIYd_A
  | fdcbD8_SET_3_mIYd_B
  | fdcbD9_SET_3_mIYd_C
  | fdcbDA_SET_3_mIYd_D
  | fdcbDB_SET_3_mIYd_E
  | fdcbDC_SET_3_mIYd_H
  | fdcbDD_SET_3_mIYd_L
  | fdcbDE_SET_3_mIYd
  | fdcbDF_SET_3_mIYd_A
  | fdcbE0_SET_4_mIYd_B
  | fdcbE1_SET_4_mIYd_C
  | fdcbE2_SET_4_mIYd_D
  | fdcbE3_SET_4_mIYd_E
  | fdcbE4_SET_4_mIYd_H
  | fdcbE5_SET_4_mIYd_L
  | fdcbE6_SET_4_mIYd
  | fdcbE7_SET_4_mIYd_A
  | fdcbE8_SET_5_mIYd_B
  | fdcbE9_SET_5_mIYd_C
  | fdcbEA_SET_5_mIYd_D
  | fdcbEB_SET_5_mIYd_E
  | fdcbEC_SET_5_mIYd_H
  | fdcbED_SET_5_mIYd_L
  | fdcbEE_SET_5_mIYd
  | fdcbEF_SET_5_mIYd_A
  | fdcbF0_SET_6_mIYd_B
  | fdcbF1_SET_6_mIYd_C
  | fdcbF2_SET_6_mIYd_D
  | fdcbF3_SET_6_mIYd_E
  | fdcbF4_SET_6_mIYd_H
  | fdcbF5_SET_6_mIYd_L
  | fdcbF6_SET_6_mIYd
  | fdcbF7_SET_6_mIYd_A
  | fdcbF8_SET_7_mIYd_B
  | fdcbF9_SET_7_mIYd_C
  | fdcbFA_SET_7_mIYd_D
  | fdcbFB_SET_7_mIYd_E
  | fdcbFC_SET_7_mIYd_H
  | fdcbFD_SET_7_mIYd_L
  | fdcbFE_SET_7_mIYd
  | fdcbFF_SET_7_mIYd_A
deriving DecidableEq

end Sys2Proof
end

