-- ==== Sys2Proof/Decode.lean ====
section
/-! DEFINITION. The decoder of the default tables (30_encoding.md R90), the encodings of files 41-47 and the encoder written from them, and the words of spec/opcode_table.json. -/

namespace Sys2Proof

/-- A 16-bit operand from its bytes, low byte first: `lo | (hi << 8)` (20_memory.md R52). -/
def word16 (lo hi : Byte) : Word := lo.setWidth 16 ||| (hi.setWidth 16 <<< 8)

/-- The low byte of a 16-bit operand, the first in the stream (20_memory.md R52). -/
def lowByte (w : Word) : Byte := w.setWidth 8

/-- The high byte of a 16-bit operand, the second in the stream (20_memory.md R52). -/
def highByte (w : Word) : Byte := (w >>> 8).setWidth 8

/-- The bytes of an operand in stream order (20_memory.md R52). -/
def operandBytes : Operand → List Byte
  | .none => []
  | .u8 v => [v]
  | .u16 v => [lowByte v, highByte v]

/-- Where an instruction stands: its table, its index byte, and the shape of its operand. -/
structure Entry where
  table : TableId
  index : Byte
  form : OperandForm
deriving DecidableEq, Repr

/-- The entry of each instruction, from the encoding its rule in files 41-47 gives. -/
def Instr.entry : Instr → Entry
  | .p00_NOP => ⟨.primary, 0x00, .none⟩
  | .p01_LD_BC_nn => ⟨.primary, 0x01, .word⟩
  | .p02_LD_mBC_A => ⟨.primary, 0x02, .none⟩
  | .p03_INC_BC => ⟨.primary, 0x03, .none⟩
  | .p04_INC_B => ⟨.primary, 0x04, .none⟩
  | .p05_DEC_B => ⟨.primary, 0x05, .none⟩
  | .p06_LD_B_n => ⟨.primary, 0x06, .byte⟩
  | .p07_RLCA => ⟨.primary, 0x07, .none⟩
  | .p08_EX_AF_AFx => ⟨.primary, 0x08, .none⟩
  | .p09_ADD_HL_BC => ⟨.primary, 0x09, .none⟩
  | .p0A_LD_A_mBC => ⟨.primary, 0x0A, .none⟩
  | .p0B_DEC_BC => ⟨.primary, 0x0B, .none⟩
  | .p0C_INC_C => ⟨.primary, 0x0C, .none⟩
  | .p0D_DEC_C => ⟨.primary, 0x0D, .none⟩
  | .p0E_LD_C_n => ⟨.primary, 0x0E, .byte⟩
  | .p0F_RRCA => ⟨.primary, 0x0F, .none⟩
  | .p10_DJNZ_e => ⟨.primary, 0x10, .byte⟩
  | .p11_LD_DE_nn => ⟨.primary, 0x11, .word⟩
  | .p12_LD_mDE_A => ⟨.primary, 0x12, .none⟩
  | .p13_INC_DE => ⟨.primary, 0x13, .none⟩
  | .p14_INC_D => ⟨.primary, 0x14, .none⟩
  | .p15_DEC_D => ⟨.primary, 0x15, .none⟩
  | .p16_LD_D_n => ⟨.primary, 0x16, .byte⟩
  | .p17_RLA => ⟨.primary, 0x17, .none⟩
  | .p18_JR_e => ⟨.primary, 0x18, .byte⟩
  | .p19_ADD_HL_DE => ⟨.primary, 0x19, .none⟩
  | .p1A_LD_A_mDE => ⟨.primary, 0x1A, .none⟩
  | .p1B_DEC_DE => ⟨.primary, 0x1B, .none⟩
  | .p1C_INC_E => ⟨.primary, 0x1C, .none⟩
  | .p1D_DEC_E => ⟨.primary, 0x1D, .none⟩
  | .p1E_LD_E_n => ⟨.primary, 0x1E, .byte⟩
  | .p1F_RRA => ⟨.primary, 0x1F, .none⟩
  | .p20_JR_NZ_e => ⟨.primary, 0x20, .byte⟩
  | .p21_LD_HL_nn => ⟨.primary, 0x21, .word⟩
  | .p22_LD_mnn_HL => ⟨.primary, 0x22, .word⟩
  | .p23_INC_HL => ⟨.primary, 0x23, .none⟩
  | .p24_INC_H => ⟨.primary, 0x24, .none⟩
  | .p25_DEC_H => ⟨.primary, 0x25, .none⟩
  | .p26_LD_H_n => ⟨.primary, 0x26, .byte⟩
  | .p27_DAA => ⟨.primary, 0x27, .none⟩
  | .p28_JR_Z_e => ⟨.primary, 0x28, .byte⟩
  | .p29_ADD_HL_HL => ⟨.primary, 0x29, .none⟩
  | .p2A_LD_HL_mnn => ⟨.primary, 0x2A, .word⟩
  | .p2B_DEC_HL => ⟨.primary, 0x2B, .none⟩
  | .p2C_INC_L => ⟨.primary, 0x2C, .none⟩
  | .p2D_DEC_L => ⟨.primary, 0x2D, .none⟩
  | .p2E_LD_L_n => ⟨.primary, 0x2E, .byte⟩
  | .p2F_CPL => ⟨.primary, 0x2F, .none⟩
  | .p30_JR_NC_e => ⟨.primary, 0x30, .byte⟩
  | .p31_LD_SP_nn => ⟨.primary, 0x31, .word⟩
  | .p32_LD_mnn_A => ⟨.primary, 0x32, .word⟩
  | .p33_INC_SP => ⟨.primary, 0x33, .none⟩
  | .p34_INC_mHL => ⟨.primary, 0x34, .none⟩
  | .p35_DEC_mHL => ⟨.primary, 0x35, .none⟩
  | .p36_LD_mHL_n => ⟨.primary, 0x36, .byte⟩
  | .p37_SCF => ⟨.primary, 0x37, .none⟩
  | .p38_JR_C_e => ⟨.primary, 0x38, .byte⟩
  | .p39_ADD_HL_SP => ⟨.primary, 0x39, .none⟩
  | .p3A_LD_A_mnn => ⟨.primary, 0x3A, .word⟩
  | .p3B_DEC_SP => ⟨.primary, 0x3B, .none⟩
  | .p3C_INC_A => ⟨.primary, 0x3C, .none⟩
  | .p3D_DEC_A => ⟨.primary, 0x3D, .none⟩
  | .p3E_LD_A_n => ⟨.primary, 0x3E, .byte⟩
  | .p3F_CCF => ⟨.primary, 0x3F, .none⟩
  | .p40_LD_B_B => ⟨.primary, 0x40, .none⟩
  | .p41_LD_B_C => ⟨.primary, 0x41, .none⟩
  | .p42_LD_B_D => ⟨.primary, 0x42, .none⟩
  | .p43_LD_B_E => ⟨.primary, 0x43, .none⟩
  | .p44_LD_B_H => ⟨.primary, 0x44, .none⟩
  | .p45_LD_B_L => ⟨.primary, 0x45, .none⟩
  | .p46_LD_B_mHL => ⟨.primary, 0x46, .none⟩
  | .p47_LD_B_A => ⟨.primary, 0x47, .none⟩
  | .p48_LD_C_B => ⟨.primary, 0x48, .none⟩
  | .p49_LD_C_C => ⟨.primary, 0x49, .none⟩
  | .p4A_LD_C_D => ⟨.primary, 0x4A, .none⟩
  | .p4B_LD_C_E => ⟨.primary, 0x4B, .none⟩
  | .p4C_LD_C_H => ⟨.primary, 0x4C, .none⟩
  | .p4D_LD_C_L => ⟨.primary, 0x4D, .none⟩
  | .p4E_LD_C_mHL => ⟨.primary, 0x4E, .none⟩
  | .p4F_LD_C_A => ⟨.primary, 0x4F, .none⟩
  | .p50_LD_D_B => ⟨.primary, 0x50, .none⟩
  | .p51_LD_D_C => ⟨.primary, 0x51, .none⟩
  | .p52_LD_D_D => ⟨.primary, 0x52, .none⟩
  | .p53_LD_D_E => ⟨.primary, 0x53, .none⟩
  | .p54_LD_D_H => ⟨.primary, 0x54, .none⟩
  | .p55_LD_D_L => ⟨.primary, 0x55, .none⟩
  | .p56_LD_D_mHL => ⟨.primary, 0x56, .none⟩
  | .p57_LD_D_A => ⟨.primary, 0x57, .none⟩
  | .p58_LD_E_B => ⟨.primary, 0x58, .none⟩
  | .p59_LD_E_C => ⟨.primary, 0x59, .none⟩
  | .p5A_LD_E_D => ⟨.primary, 0x5A, .none⟩
  | .p5B_LD_E_E => ⟨.primary, 0x5B, .none⟩
  | .p5C_LD_E_H => ⟨.primary, 0x5C, .none⟩
  | .p5D_LD_E_L => ⟨.primary, 0x5D, .none⟩
  | .p5E_LD_E_mHL => ⟨.primary, 0x5E, .none⟩
  | .p5F_LD_E_A => ⟨.primary, 0x5F, .none⟩
  | .p60_LD_H_B => ⟨.primary, 0x60, .none⟩
  | .p61_LD_H_C => ⟨.primary, 0x61, .none⟩
  | .p62_LD_H_D => ⟨.primary, 0x62, .none⟩
  | .p63_LD_H_E => ⟨.primary, 0x63, .none⟩
  | .p64_LD_H_H => ⟨.primary, 0x64, .none⟩
  | .p65_LD_H_L => ⟨.primary, 0x65, .none⟩
  | .p66_LD_H_mHL => ⟨.primary, 0x66, .none⟩
  | .p67_LD_H_A => ⟨.primary, 0x67, .none⟩
  | .p68_LD_L_B => ⟨.primary, 0x68, .none⟩
  | .p69_LD_L_C => ⟨.primary, 0x69, .none⟩
  | .p6A_LD_L_D => ⟨.primary, 0x6A, .none⟩
  | .p6B_LD_L_E => ⟨.primary, 0x6B, .none⟩
  | .p6C_LD_L_H => ⟨.primary, 0x6C, .none⟩
  | .p6D_LD_L_L => ⟨.primary, 0x6D, .none⟩
  | .p6E_LD_L_mHL => ⟨.primary, 0x6E, .none⟩
  | .p6F_LD_L_A => ⟨.primary, 0x6F, .none⟩
  | .p70_LD_mHL_B => ⟨.primary, 0x70, .none⟩
  | .p71_LD_mHL_C => ⟨.primary, 0x71, .none⟩
  | .p72_LD_mHL_D => ⟨.primary, 0x72, .none⟩
  | .p73_LD_mHL_E => ⟨.primary, 0x73, .none⟩
  | .p74_LD_mHL_H => ⟨.primary, 0x74, .none⟩
  | .p75_LD_mHL_L => ⟨.primary, 0x75, .none⟩
  | .p76_HALT => ⟨.primary, 0x76, .none⟩
  | .p77_LD_mHL_A => ⟨.primary, 0x77, .none⟩
  | .p78_LD_A_B => ⟨.primary, 0x78, .none⟩
  | .p79_LD_A_C => ⟨.primary, 0x79, .none⟩
  | .p7A_LD_A_D => ⟨.primary, 0x7A, .none⟩
  | .p7B_LD_A_E => ⟨.primary, 0x7B, .none⟩
  | .p7C_LD_A_H => ⟨.primary, 0x7C, .none⟩
  | .p7D_LD_A_L => ⟨.primary, 0x7D, .none⟩
  | .p7E_LD_A_mHL => ⟨.primary, 0x7E, .none⟩
  | .p7F_LD_A_A => ⟨.primary, 0x7F, .none⟩
  | .p80_ADD_A_B => ⟨.primary, 0x80, .none⟩
  | .p81_ADD_A_C => ⟨.primary, 0x81, .none⟩
  | .p82_ADD_A_D => ⟨.primary, 0x82, .none⟩
  | .p83_ADD_A_E => ⟨.primary, 0x83, .none⟩
  | .p84_ADD_A_H => ⟨.primary, 0x84, .none⟩
  | .p85_ADD_A_L => ⟨.primary, 0x85, .none⟩
  | .p86_ADD_A_mHL => ⟨.primary, 0x86, .none⟩
  | .p87_ADD_A_A => ⟨.primary, 0x87, .none⟩
  | .p88_ADC_A_B => ⟨.primary, 0x88, .none⟩
  | .p89_ADC_A_C => ⟨.primary, 0x89, .none⟩
  | .p8A_ADC_A_D => ⟨.primary, 0x8A, .none⟩
  | .p8B_ADC_A_E => ⟨.primary, 0x8B, .none⟩
  | .p8C_ADC_A_H => ⟨.primary, 0x8C, .none⟩
  | .p8D_ADC_A_L => ⟨.primary, 0x8D, .none⟩
  | .p8E_ADC_A_mHL => ⟨.primary, 0x8E, .none⟩
  | .p8F_ADC_A_A => ⟨.primary, 0x8F, .none⟩
  | .p90_SUB_B => ⟨.primary, 0x90, .none⟩
  | .p91_SUB_C => ⟨.primary, 0x91, .none⟩
  | .p92_SUB_D => ⟨.primary, 0x92, .none⟩
  | .p93_SUB_E => ⟨.primary, 0x93, .none⟩
  | .p94_SUB_H => ⟨.primary, 0x94, .none⟩
  | .p95_SUB_L => ⟨.primary, 0x95, .none⟩
  | .p96_SUB_mHL => ⟨.primary, 0x96, .none⟩
  | .p97_SUB_A => ⟨.primary, 0x97, .none⟩
  | .p98_SBC_A_B => ⟨.primary, 0x98, .none⟩
  | .p99_SBC_A_C => ⟨.primary, 0x99, .none⟩
  | .p9A_SBC_A_D => ⟨.primary, 0x9A, .none⟩
  | .p9B_SBC_A_E => ⟨.primary, 0x9B, .none⟩
  | .p9C_SBC_A_H => ⟨.primary, 0x9C, .none⟩
  | .p9D_SBC_A_L => ⟨.primary, 0x9D, .none⟩
  | .p9E_SBC_A_mHL => ⟨.primary, 0x9E, .none⟩
  | .p9F_SBC_A_A => ⟨.primary, 0x9F, .none⟩
  | .pA0_AND_B => ⟨.primary, 0xA0, .none⟩
  | .pA1_AND_C => ⟨.primary, 0xA1, .none⟩
  | .pA2_AND_D => ⟨.primary, 0xA2, .none⟩
  | .pA3_AND_E => ⟨.primary, 0xA3, .none⟩
  | .pA4_AND_H => ⟨.primary, 0xA4, .none⟩
  | .pA5_AND_L => ⟨.primary, 0xA5, .none⟩
  | .pA6_AND_mHL => ⟨.primary, 0xA6, .none⟩
  | .pA7_AND_A => ⟨.primary, 0xA7, .none⟩
  | .pA8_XOR_B => ⟨.primary, 0xA8, .none⟩
  | .pA9_XOR_C => ⟨.primary, 0xA9, .none⟩
  | .pAA_XOR_D => ⟨.primary, 0xAA, .none⟩
  | .pAB_XOR_E => ⟨.primary, 0xAB, .none⟩
  | .pAC_XOR_H => ⟨.primary, 0xAC, .none⟩
  | .pAD_XOR_L => ⟨.primary, 0xAD, .none⟩
  | .pAE_XOR_mHL => ⟨.primary, 0xAE, .none⟩
  | .pAF_XOR_A => ⟨.primary, 0xAF, .none⟩
  | .pB0_OR_B => ⟨.primary, 0xB0, .none⟩
  | .pB1_OR_C => ⟨.primary, 0xB1, .none⟩
  | .pB2_OR_D => ⟨.primary, 0xB2, .none⟩
  | .pB3_OR_E => ⟨.primary, 0xB3, .none⟩
  | .pB4_OR_H => ⟨.primary, 0xB4, .none⟩
  | .pB5_OR_L => ⟨.primary, 0xB5, .none⟩
  | .pB6_OR_mHL => ⟨.primary, 0xB6, .none⟩
  | .pB7_OR_A => ⟨.primary, 0xB7, .none⟩
  | .pB8_CP_B => ⟨.primary, 0xB8, .none⟩
  | .pB9_CP_C => ⟨.primary, 0xB9, .none⟩
  | .pBA_CP_D => ⟨.primary, 0xBA, .none⟩
  | .pBB_CP_E => ⟨.primary, 0xBB, .none⟩
  | .pBC_CP_H => ⟨.primary, 0xBC, .none⟩
  | .pBD_CP_L => ⟨.primary, 0xBD, .none⟩
  | .pBE_CP_mHL => ⟨.primary, 0xBE, .none⟩
  | .pBF_CP_A => ⟨.primary, 0xBF, .none⟩
  | .pC0_RET_NZ => ⟨.primary, 0xC0, .none⟩
  | .pC1_POP_BC => ⟨.primary, 0xC1, .none⟩
  | .pC2_JP_NZ_nn => ⟨.primary, 0xC2, .word⟩
  | .pC3_JP_nn => ⟨.primary, 0xC3, .word⟩
  | .pC4_CALL_NZ_nn => ⟨.primary, 0xC4, .word⟩
  | .pC5_PUSH_BC => ⟨.primary, 0xC5, .none⟩
  | .pC6_ADD_A_n => ⟨.primary, 0xC6, .byte⟩
  | .pC7_RST_00H => ⟨.primary, 0xC7, .none⟩
  | .pC8_RET_Z => ⟨.primary, 0xC8, .none⟩
  | .pC9_RET => ⟨.primary, 0xC9, .none⟩
  | .pCA_JP_Z_nn => ⟨.primary, 0xCA, .word⟩
  | .pCB_PREFIX_CB => ⟨.primary, 0xCB, .none⟩
  | .pCC_CALL_Z_nn => ⟨.primary, 0xCC, .word⟩
  | .pCD_CALL_nn => ⟨.primary, 0xCD, .word⟩
  | .pCE_ADC_A_n => ⟨.primary, 0xCE, .byte⟩
  | .pCF_RST_08H => ⟨.primary, 0xCF, .none⟩
  | .pD0_RET_NC => ⟨.primary, 0xD0, .none⟩
  | .pD1_POP_DE => ⟨.primary, 0xD1, .none⟩
  | .pD2_JP_NC_nn => ⟨.primary, 0xD2, .word⟩
  | .pD3_OUT_mn_A => ⟨.primary, 0xD3, .byte⟩
  | .pD4_CALL_NC_nn => ⟨.primary, 0xD4, .word⟩
  | .pD5_PUSH_DE => ⟨.primary, 0xD5, .none⟩
  | .pD6_SUB_n => ⟨.primary, 0xD6, .byte⟩
  | .pD7_RST_10H => ⟨.primary, 0xD7, .none⟩
  | .pD8_RET_C => ⟨.primary, 0xD8, .none⟩
  | .pD9_EXX => ⟨.primary, 0xD9, .none⟩
  | .pDA_JP_C_nn => ⟨.primary, 0xDA, .word⟩
  | .pDB_IN_A_mn => ⟨.primary, 0xDB, .byte⟩
  | .pDC_CALL_C_nn => ⟨.primary, 0xDC, .word⟩
  | .pDD_PREFIX_DD => ⟨.primary, 0xDD, .none⟩
  | .pDE_SBC_A_n => ⟨.primary, 0xDE, .byte⟩
  | .pDF_RST_18H => ⟨.primary, 0xDF, .none⟩
  | .pE0_RET_PO => ⟨.primary, 0xE0, .none⟩
  | .pE1_POP_HL => ⟨.primary, 0xE1, .none⟩
  | .pE2_JP_PO_nn => ⟨.primary, 0xE2, .word⟩
  | .pE3_EX_mSP_HL => ⟨.primary, 0xE3, .none⟩
  | .pE4_CALL_PO_nn => ⟨.primary, 0xE4, .word⟩
  | .pE5_PUSH_HL => ⟨.primary, 0xE5, .none⟩
  | .pE6_AND_n => ⟨.primary, 0xE6, .byte⟩
  | .pE7_RST_20H => ⟨.primary, 0xE7, .none⟩
  | .pE8_RET_PE => ⟨.primary, 0xE8, .none⟩
  | .pE9_JP_mHL => ⟨.primary, 0xE9, .none⟩
  | .pEA_JP_PE_nn => ⟨.primary, 0xEA, .word⟩
  | .pEB_EX_DE_HL => ⟨.primary, 0xEB, .none⟩
  | .pEC_CALL_PE_nn => ⟨.primary, 0xEC, .word⟩
  | .pED_PREFIX_ED => ⟨.primary, 0xED, .none⟩
  | .pEE_XOR_n => ⟨.primary, 0xEE, .byte⟩
  | .pEF_RST_28H => ⟨.primary, 0xEF, .none⟩
  | .pF0_RET_P => ⟨.primary, 0xF0, .none⟩
  | .pF1_POP_AF => ⟨.primary, 0xF1, .none⟩
  | .pF2_JP_P_nn => ⟨.primary, 0xF2, .word⟩
  | .pF3_DI => ⟨.primary, 0xF3, .none⟩
  | .pF4_CALL_P_nn => ⟨.primary, 0xF4, .word⟩
  | .pF5_PUSH_AF => ⟨.primary, 0xF5, .none⟩
  | .pF6_OR_n => ⟨.primary, 0xF6, .byte⟩
  | .pF7_RST_30H => ⟨.primary, 0xF7, .none⟩
  | .pF8_RET_M => ⟨.primary, 0xF8, .none⟩
  | .pF9_LD_SP_HL => ⟨.primary, 0xF9, .none⟩
  | .pFA_JP_M_nn => ⟨.primary, 0xFA, .word⟩
  | .pFB_EI => ⟨.primary, 0xFB, .none⟩
  | .pFC_CALL_M_nn => ⟨.primary, 0xFC, .word⟩
  | .pFD_PREFIX_FD => ⟨.primary, 0xFD, .none⟩
  | .pFE_CP_n => ⟨.primary, 0xFE, .byte⟩
  | .pFF_RST_38H => ⟨.primary, 0xFF, .none⟩
  | .cb00_RLC_B => ⟨.cb, 0x00, .none⟩
  | .cb01_RLC_C => ⟨.cb, 0x01, .none⟩
  | .cb02_RLC_D => ⟨.cb, 0x02, .none⟩
  | .cb03_RLC_E => ⟨.cb, 0x03, .none⟩
  | .cb04_RLC_H => ⟨.cb, 0x04, .none⟩
  | .cb05_RLC_L => ⟨.cb, 0x05, .none⟩
  | .cb06_RLC_mHL => ⟨.cb, 0x06, .none⟩
  | .cb07_RLC_A => ⟨.cb, 0x07, .none⟩
  | .cb08_RRC_B => ⟨.cb, 0x08, .none⟩
  | .cb09_RRC_C => ⟨.cb, 0x09, .none⟩
  | .cb0A_RRC_D => ⟨.cb, 0x0A, .none⟩
  | .cb0B_RRC_E => ⟨.cb, 0x0B, .none⟩
  | .cb0C_RRC_H => ⟨.cb, 0x0C, .none⟩
  | .cb0D_RRC_L => ⟨.cb, 0x0D, .none⟩
  | .cb0E_RRC_mHL => ⟨.cb, 0x0E, .none⟩
  | .cb0F_RRC_A => ⟨.cb, 0x0F, .none⟩
  | .cb10_RL_B => ⟨.cb, 0x10, .none⟩
  | .cb11_RL_C => ⟨.cb, 0x11, .none⟩
  | .cb12_RL_D => ⟨.cb, 0x12, .none⟩
  | .cb13_RL_E => ⟨.cb, 0x13, .none⟩
  | .cb14_RL_H => ⟨.cb, 0x14, .none⟩
  | .cb15_RL_L => ⟨.cb, 0x15, .none⟩
  | .cb16_RL_mHL => ⟨.cb, 0x16, .none⟩
  | .cb17_RL_A => ⟨.cb, 0x17, .none⟩
  | .cb18_RR_B => ⟨.cb, 0x18, .none⟩
  | .cb19_RR_C => ⟨.cb, 0x19, .none⟩
  | .cb1A_RR_D => ⟨.cb, 0x1A, .none⟩
  | .cb1B_RR_E => ⟨.cb, 0x1B, .none⟩
  | .cb1C_RR_H => ⟨.cb, 0x1C, .none⟩
  | .cb1D_RR_L => ⟨.cb, 0x1D, .none⟩
  | .cb1E_RR_mHL => ⟨.cb, 0x1E, .none⟩
  | .cb1F_RR_A => ⟨.cb, 0x1F, .none⟩
  | .cb20_SLA_B => ⟨.cb, 0x20, .none⟩
  | .cb21_SLA_C => ⟨.cb, 0x21, .none⟩
  | .cb22_SLA_D => ⟨.cb, 0x22, .none⟩
  | .cb23_SLA_E => ⟨.cb, 0x23, .none⟩
  | .cb24_SLA_H => ⟨.cb, 0x24, .none⟩
  | .cb25_SLA_L => ⟨.cb, 0x25, .none⟩
  | .cb26_SLA_mHL => ⟨.cb, 0x26, .none⟩
  | .cb27_SLA_A => ⟨.cb, 0x27, .none⟩
  | .cb28_SRA_B => ⟨.cb, 0x28, .none⟩
  | .cb29_SRA_C => ⟨.cb, 0x29, .none⟩
  | .cb2A_SRA_D => ⟨.cb, 0x2A, .none⟩
  | .cb2B_SRA_E => ⟨.cb, 0x2B, .none⟩
  | .cb2C_SRA_H => ⟨.cb, 0x2C, .none⟩
  | .cb2D_SRA_L => ⟨.cb, 0x2D, .none⟩
  | .cb2E_SRA_mHL => ⟨.cb, 0x2E, .none⟩
  | .cb2F_SRA_A => ⟨.cb, 0x2F, .none⟩
  | .cb30_SLL_B => ⟨.cb, 0x30, .none⟩
  | .cb31_SLL_C => ⟨.cb, 0x31, .none⟩
  | .cb32_SLL_D => ⟨.cb, 0x32, .none⟩
  | .cb33_SLL_E => ⟨.cb, 0x33, .none⟩
  | .cb34_SLL_H => ⟨.cb, 0x34, .none⟩
  | .cb35_SLL_L => ⟨.cb, 0x35, .none⟩
  | .cb36_SLL_mHL => ⟨.cb, 0x36, .none⟩
  | .cb37_SLL_A => ⟨.cb, 0x37, .none⟩
  | .cb38_SRL_B => ⟨.cb, 0x38, .none⟩
  | .cb39_SRL_C => ⟨.cb, 0x39, .none⟩
  | .cb3A_SRL_D => ⟨.cb, 0x3A, .none⟩
  | .cb3B_SRL_E => ⟨.cb, 0x3B, .none⟩
  | .cb3C_SRL_H => ⟨.cb, 0x3C, .none⟩
  | .cb3D_SRL_L => ⟨.cb, 0x3D, .none⟩
  | .cb3E_SRL_mHL => ⟨.cb, 0x3E, .none⟩
  | .cb3F_SRL_A => ⟨.cb, 0x3F, .none⟩
  | .cb40_BIT_0_B => ⟨.cb, 0x40, .none⟩
  | .cb41_BIT_0_C => ⟨.cb, 0x41, .none⟩
  | .cb42_BIT_0_D => ⟨.cb, 0x42, .none⟩
  | .cb43_BIT_0_E => ⟨.cb, 0x43, .none⟩
  | .cb44_BIT_0_H => ⟨.cb, 0x44, .none⟩
  | .cb45_BIT_0_L => ⟨.cb, 0x45, .none⟩
  | .cb46_BIT_0_mHL => ⟨.cb, 0x46, .none⟩
  | .cb47_BIT_0_A => ⟨.cb, 0x47, .none⟩
  | .cb48_BIT_1_B => ⟨.cb, 0x48, .none⟩
  | .cb49_BIT_1_C => ⟨.cb, 0x49, .none⟩
  | .cb4A_BIT_1_D => ⟨.cb, 0x4A, .none⟩
  | .cb4B_BIT_1_E => ⟨.cb, 0x4B, .none⟩
  | .cb4C_BIT_1_H => ⟨.cb, 0x4C, .none⟩
  | .cb4D_BIT_1_L => ⟨.cb, 0x4D, .none⟩
  | .cb4E_BIT_1_mHL => ⟨.cb, 0x4E, .none⟩
  | .cb4F_BIT_1_A => ⟨.cb, 0x4F, .none⟩
  | .cb50_BIT_2_B => ⟨.cb, 0x50, .none⟩
  | .cb51_BIT_2_C => ⟨.cb, 0x51, .none⟩
  | .cb52_BIT_2_D => ⟨.cb, 0x52, .none⟩
  | .cb53_BIT_2_E => ⟨.cb, 0x53, .none⟩
  | .cb54_BIT_2_H => ⟨.cb, 0x54, .none⟩
  | .cb55_BIT_2_L => ⟨.cb, 0x55, .none⟩
  | .cb56_BIT_2_mHL => ⟨.cb, 0x56, .none⟩
  | .cb57_BIT_2_A => ⟨.cb, 0x57, .none⟩
  | .cb58_BIT_3_B => ⟨.cb, 0x58, .none⟩
  | .cb59_BIT_3_C => ⟨.cb, 0x59, .none⟩
  | .cb5A_BIT_3_D => ⟨.cb, 0x5A, .none⟩
  | .cb5B_BIT_3_E => ⟨.cb, 0x5B, .none⟩
  | .cb5C_BIT_3_H => ⟨.cb, 0x5C, .none⟩
  | .cb5D_BIT_3_L => ⟨.cb, 0x5D, .none⟩
  | .cb5E_BIT_3_mHL => ⟨.cb, 0x5E, .none⟩
  | .cb5F_BIT_3_A => ⟨.cb, 0x5F, .none⟩
  | .cb60_BIT_4_B => ⟨.cb, 0x60, .none⟩
  | .cb61_BIT_4_C => ⟨.cb, 0x61, .none⟩
  | .cb62_BIT_4_D => ⟨.cb, 0x62, .none⟩
  | .cb63_BIT_4_E => ⟨.cb, 0x63, .none⟩
  | .cb64_BIT_4_H => ⟨.cb, 0x64, .none⟩
  | .cb65_BIT_4_L => ⟨.cb, 0x65, .none⟩
  | .cb66_BIT_4_mHL => ⟨.cb, 0x66, .none⟩
  | .cb67_BIT_4_A => ⟨.cb, 0x67, .none⟩
  | .cb68_BIT_5_B => ⟨.cb, 0x68, .none⟩
  | .cb69_BIT_5_C => ⟨.cb, 0x69, .none⟩
  | .cb6A_BIT_5_D => ⟨.cb, 0x6A, .none⟩
  | .cb6B_BIT_5_E => ⟨.cb, 0x6B, .none⟩
  | .cb6C_BIT_5_H => ⟨.cb, 0x6C, .none⟩
  | .cb6D_BIT_5_L => ⟨.cb, 0x6D, .none⟩
  | .cb6E_BIT_5_mHL => ⟨.cb, 0x6E, .none⟩
  | .cb6F_BIT_5_A => ⟨.cb, 0x6F, .none⟩
  | .cb70_BIT_6_B => ⟨.cb, 0x70, .none⟩
  | .cb71_BIT_6_C => ⟨.cb, 0x71, .none⟩
  | .cb72_BIT_6_D => ⟨.cb, 0x72, .none⟩
  | .cb73_BIT_6_E => ⟨.cb, 0x73, .none⟩
  | .cb74_BIT_6_H => ⟨.cb, 0x74, .none⟩
  | .cb75_BIT_6_L => ⟨.cb, 0x75, .none⟩
  | .cb76_BIT_6_mHL => ⟨.cb, 0x76, .none⟩
  | .cb77_BIT_6_A => ⟨.cb, 0x77, .none⟩
  | .cb78_BIT_7_B => ⟨.cb, 0x78, .none⟩
  | .cb79_BIT_7_C => ⟨.cb, 0x79, .none⟩
  | .cb7A_BIT_7_D => ⟨.cb, 0x7A, .none⟩
  | .cb7B_BIT_7_E => ⟨.cb, 0x7B, .none⟩
  | .cb7C_BIT_7_H => ⟨.cb, 0x7C, .none⟩
  | .cb7D_BIT_7_L => ⟨.cb, 0x7D, .none⟩
  | .cb7E_BIT_7_mHL => ⟨.cb, 0x7E, .none⟩
  | .cb7F_BIT_7_A => ⟨.cb, 0x7F, .none⟩
  | .cb80_RES_0_B => ⟨.cb, 0x80, .none⟩
  | .cb81_RES_0_C => ⟨.cb, 0x81, .none⟩
  | .cb82_RES_0_D => ⟨.cb, 0x82, .none⟩
  | .cb83_RES_0_E => ⟨.cb, 0x83, .none⟩
  | .cb84_RES_0_H => ⟨.cb, 0x84, .none⟩
  | .cb85_RES_0_L => ⟨.cb, 0x85, .none⟩
  | .cb86_RES_0_mHL => ⟨.cb, 0x86, .none⟩
  | .cb87_RES_0_A => ⟨.cb, 0x87, .none⟩
  | .cb88_RES_1_B => ⟨.cb, 0x88, .none⟩
  | .cb89_RES_1_C => ⟨.cb, 0x89, .none⟩
  | .cb8A_RES_1_D => ⟨.cb, 0x8A, .none⟩
  | .cb8B_RES_1_E => ⟨.cb, 0x8B, .none⟩
  | .cb8C_RES_1_H => ⟨.cb, 0x8C, .none⟩
  | .cb8D_RES_1_L => ⟨.cb, 0x8D, .none⟩
  | .cb8E_RES_1_mHL => ⟨.cb, 0x8E, .none⟩
  | .cb8F_RES_1_A => ⟨.cb, 0x8F, .none⟩
  | .cb90_RES_2_B => ⟨.cb, 0x90, .none⟩
  | .cb91_RES_2_C => ⟨.cb, 0x91, .none⟩
  | .cb92_RES_2_D => ⟨.cb, 0x92, .none⟩
  | .cb93_RES_2_E => ⟨.cb, 0x93, .none⟩
  | .cb94_RES_2_H => ⟨.cb, 0x94, .none⟩
  | .cb95_RES_2_L => ⟨.cb, 0x95, .none⟩
  | .cb96_RES_2_mHL => ⟨.cb, 0x96, .none⟩
  | .cb97_RES_2_A => ⟨.cb, 0x97, .none⟩
  | .cb98_RES_3_B => ⟨.cb, 0x98, .none⟩
  | .cb99_RES_3_C => ⟨.cb, 0x99, .none⟩
  | .cb9A_RES_3_D => ⟨.cb, 0x9A, .none⟩
  | .cb9B_RES_3_E => ⟨.cb, 0x9B, .none⟩
  | .cb9C_RES_3_H => ⟨.cb, 0x9C, .none⟩
  | .cb9D_RES_3_L => ⟨.cb, 0x9D, .none⟩
  | .cb9E_RES_3_mHL => ⟨.cb, 0x9E, .none⟩
  | .cb9F_RES_3_A => ⟨.cb, 0x9F, .none⟩
  | .cbA0_RES_4_B => ⟨.cb, 0xA0, .none⟩
  | .cbA1_RES_4_C => ⟨.cb, 0xA1, .none⟩
  | .cbA2_RES_4_D => ⟨.cb, 0xA2, .none⟩
  | .cbA3_RES_4_E => ⟨.cb, 0xA3, .none⟩
  | .cbA4_RES_4_H => ⟨.cb, 0xA4, .none⟩
  | .cbA5_RES_4_L => ⟨.cb, 0xA5, .none⟩
  | .cbA6_RES_4_mHL => ⟨.cb, 0xA6, .none⟩
  | .cbA7_RES_4_A => ⟨.cb, 0xA7, .none⟩
  | .cbA8_RES_5_B => ⟨.cb, 0xA8, .none⟩
  | .cbA9_RES_5_C => ⟨.cb, 0xA9, .none⟩
  | .cbAA_RES_5_D => ⟨.cb, 0xAA, .none⟩
  | .cbAB_RES_5_E => ⟨.cb, 0xAB, .none⟩
  | .cbAC_RES_5_H => ⟨.cb, 0xAC, .none⟩
  | .cbAD_RES_5_L => ⟨.cb, 0xAD, .none⟩
  | .cbAE_RES_5_mHL => ⟨.cb, 0xAE, .none⟩
  | .cbAF_RES_5_A => ⟨.cb, 0xAF, .none⟩
  | .cbB0_RES_6_B => ⟨.cb, 0xB0, .none⟩
  | .cbB1_RES_6_C => ⟨.cb, 0xB1, .none⟩
  | .cbB2_RES_6_D => ⟨.cb, 0xB2, .none⟩
  | .cbB3_RES_6_E => ⟨.cb, 0xB3, .none⟩
  | .cbB4_RES_6_H => ⟨.cb, 0xB4, .none⟩
  | .cbB5_RES_6_L => ⟨.cb, 0xB5, .none⟩
  | .cbB6_RES_6_mHL => ⟨.cb, 0xB6, .none⟩
  | .cbB7_RES_6_A => ⟨.cb, 0xB7, .none⟩
  | .cbB8_RES_7_B => ⟨.cb, 0xB8, .none⟩
  | .cbB9_RES_7_C => ⟨.cb, 0xB9, .none⟩
  | .cbBA_RES_7_D => ⟨.cb, 0xBA, .none⟩
  | .cbBB_RES_7_E => ⟨.cb, 0xBB, .none⟩
  | .cbBC_RES_7_H => ⟨.cb, 0xBC, .none⟩
  | .cbBD_RES_7_L => ⟨.cb, 0xBD, .none⟩
  | .cbBE_RES_7_mHL => ⟨.cb, 0xBE, .none⟩
  | .cbBF_RES_7_A => ⟨.cb, 0xBF, .none⟩
  | .cbC0_SET_0_B => ⟨.cb, 0xC0, .none⟩
  | .cbC1_SET_0_C => ⟨.cb, 0xC1, .none⟩
  | .cbC2_SET_0_D => ⟨.cb, 0xC2, .none⟩
  | .cbC3_SET_0_E => ⟨.cb, 0xC3, .none⟩
  | .cbC4_SET_0_H => ⟨.cb, 0xC4, .none⟩
  | .cbC5_SET_0_L => ⟨.cb, 0xC5, .none⟩
  | .cbC6_SET_0_mHL => ⟨.cb, 0xC6, .none⟩
  | .cbC7_SET_0_A => ⟨.cb, 0xC7, .none⟩
  | .cbC8_SET_1_B => ⟨.cb, 0xC8, .none⟩
  | .cbC9_SET_1_C => ⟨.cb, 0xC9, .none⟩
  | .cbCA_SET_1_D => ⟨.cb, 0xCA, .none⟩
  | .cbCB_SET_1_E => ⟨.cb, 0xCB, .none⟩
  | .cbCC_SET_1_H => ⟨.cb, 0xCC, .none⟩
  | .cbCD_SET_1_L => ⟨.cb, 0xCD, .none⟩
  | .cbCE_SET_1_mHL => ⟨.cb, 0xCE, .none⟩
  | .cbCF_SET_1_A => ⟨.cb, 0xCF, .none⟩
  | .cbD0_SET_2_B => ⟨.cb, 0xD0, .none⟩
  | .cbD1_SET_2_C => ⟨.cb, 0xD1, .none⟩
  | .cbD2_SET_2_D => ⟨.cb, 0xD2, .none⟩
  | .cbD3_SET_2_E => ⟨.cb, 0xD3, .none⟩
  | .cbD4_SET_2_H => ⟨.cb, 0xD4, .none⟩
  | .cbD5_SET_2_L => ⟨.cb, 0xD5, .none⟩
  | .cbD6_SET_2_mHL => ⟨.cb, 0xD6, .none⟩
  | .cbD7_SET_2_A => ⟨.cb, 0xD7, .none⟩
  | .cbD8_SET_3_B => ⟨.cb, 0xD8, .none⟩
  | .cbD9_SET_3_C => ⟨.cb, 0xD9, .none⟩
  | .cbDA_SET_3_D => ⟨.cb, 0xDA, .none⟩
  | .cbDB_SET_3_E => ⟨.cb, 0xDB, .none⟩
  | .cbDC_SET_3_H => ⟨.cb, 0xDC, .none⟩
  | .cbDD_SET_3_L => ⟨.cb, 0xDD, .none⟩
  | .cbDE_SET_3_mHL => ⟨.cb, 0xDE, .none⟩
  | .cbDF_SET_3_A => ⟨.cb, 0xDF, .none⟩
  | .cbE0_SET_4_B => ⟨.cb, 0xE0, .none⟩
  | .cbE1_SET_4_C => ⟨.cb, 0xE1, .none⟩
  | .cbE2_SET_4_D => ⟨.cb, 0xE2, .none⟩
  | .cbE3_SET_4_E => ⟨.cb, 0xE3, .none⟩
  | .cbE4_SET_4_H => ⟨.cb, 0xE4, .none⟩
  | .cbE5_SET_4_L => ⟨.cb, 0xE5, .none⟩
  | .cbE6_SET_4_mHL => ⟨.cb, 0xE6, .none⟩
  | .cbE7_SET_4_A => ⟨.cb, 0xE7, .none⟩
  | .cbE8_SET_5_B => ⟨.cb, 0xE8, .none⟩
  | .cbE9_SET_5_C => ⟨.cb, 0xE9, .none⟩
  | .cbEA_SET_5_D => ⟨.cb, 0xEA, .none⟩
  | .cbEB_SET_5_E => ⟨.cb, 0xEB, .none⟩
  | .cbEC_SET_5_H => ⟨.cb, 0xEC, .none⟩
  | .cbED_SET_5_L => ⟨.cb, 0xED, .none⟩
  | .cbEE_SET_5_mHL => ⟨.cb, 0xEE, .none⟩
  | .cbEF_SET_5_A => ⟨.cb, 0xEF, .none⟩
  | .cbF0_SET_6_B => ⟨.cb, 0xF0, .none⟩
  | .cbF1_SET_6_C => ⟨.cb, 0xF1, .none⟩
  | .cbF2_SET_6_D => ⟨.cb, 0xF2, .none⟩
  | .cbF3_SET_6_E => ⟨.cb, 0xF3, .none⟩
  | .cbF4_SET_6_H => ⟨.cb, 0xF4, .none⟩
  | .cbF5_SET_6_L => ⟨.cb, 0xF5, .none⟩
  | .cbF6_SET_6_mHL => ⟨.cb, 0xF6, .none⟩
  | .cbF7_SET_6_A => ⟨.cb, 0xF7, .none⟩
  | .cbF8_SET_7_B => ⟨.cb, 0xF8, .none⟩
  | .cbF9_SET_7_C => ⟨.cb, 0xF9, .none⟩
  | .cbFA_SET_7_D => ⟨.cb, 0xFA, .none⟩
  | .cbFB_SET_7_E => ⟨.cb, 0xFB, .none⟩
  | .cbFC_SET_7_H => ⟨.cb, 0xFC, .none⟩
  | .cbFD_SET_7_L => ⟨.cb, 0xFD, .none⟩
  | .cbFE_SET_7_mHL => ⟨.cb, 0xFE, .none⟩
  | .cbFF_SET_7_A => ⟨.cb, 0xFF, .none⟩
  | .ed00_PLACEHOLDER => ⟨.ed, 0x00, .none⟩
  | .ed01_PLACEHOLDER => ⟨.ed, 0x01, .none⟩
  | .ed02_PLACEHOLDER => ⟨.ed, 0x02, .none⟩
  | .ed03_PLACEHOLDER => ⟨.ed, 0x03, .none⟩
  | .ed04_PLACEHOLDER => ⟨.ed, 0x04, .none⟩
  | .ed05_PLACEHOLDER => ⟨.ed, 0x05, .none⟩
  | .ed06_PLACEHOLDER => ⟨.ed, 0x06, .none⟩
  | .ed07_PLACEHOLDER => ⟨.ed, 0x07, .none⟩
  | .ed08_PLACEHOLDER => ⟨.ed, 0x08, .none⟩
  | .ed09_PLACEHOLDER => ⟨.ed, 0x09, .none⟩
  | .ed0A_PLACEHOLDER => ⟨.ed, 0x0A, .none⟩
  | .ed0B_PLACEHOLDER => ⟨.ed, 0x0B, .none⟩
  | .ed0C_PLACEHOLDER => ⟨.ed, 0x0C, .none⟩
  | .ed0D_PLACEHOLDER => ⟨.ed, 0x0D, .none⟩
  | .ed0E_PLACEHOLDER => ⟨.ed, 0x0E, .none⟩
  | .ed0F_PLACEHOLDER => ⟨.ed, 0x0F, .none⟩
  | .ed10_PLACEHOLDER => ⟨.ed, 0x10, .none⟩
  | .ed11_PLACEHOLDER => ⟨.ed, 0x11, .none⟩
  | .ed12_PLACEHOLDER => ⟨.ed, 0x12, .none⟩
  | .ed13_PLACEHOLDER => ⟨.ed, 0x13, .none⟩
  | .ed14_PLACEHOLDER => ⟨.ed, 0x14, .none⟩
  | .ed15_PLACEHOLDER => ⟨.ed, 0x15, .none⟩
  | .ed16_PLACEHOLDER => ⟨.ed, 0x16, .none⟩
  | .ed17_PLACEHOLDER => ⟨.ed, 0x17, .none⟩
  | .ed18_PLACEHOLDER => ⟨.ed, 0x18, .none⟩
  | .ed19_PLACEHOLDER => ⟨.ed, 0x19, .none⟩
  | .ed1A_PLACEHOLDER => ⟨.ed, 0x1A, .none⟩
  | .ed1B_PLACEHOLDER => ⟨.ed, 0x1B, .none⟩
  | .ed1C_PLACEHOLDER => ⟨.ed, 0x1C, .none⟩
  | .ed1D_PLACEHOLDER => ⟨.ed, 0x1D, .none⟩
  | .ed1E_PLACEHOLDER => ⟨.ed, 0x1E, .none⟩
  | .ed1F_PLACEHOLDER => ⟨.ed, 0x1F, .none⟩
  | .ed20_PLACEHOLDER => ⟨.ed, 0x20, .none⟩
  | .ed21_PLACEHOLDER => ⟨.ed, 0x21, .none⟩
  | .ed22_PLACEHOLDER => ⟨.ed, 0x22, .none⟩
  | .ed23_PLACEHOLDER => ⟨.ed, 0x23, .none⟩
  | .ed24_PLACEHOLDER => ⟨.ed, 0x24, .none⟩
  | .ed25_PLACEHOLDER => ⟨.ed, 0x25, .none⟩
  | .ed26_PLACEHOLDER => ⟨.ed, 0x26, .none⟩
  | .ed27_PLACEHOLDER => ⟨.ed, 0x27, .none⟩
  | .ed28_PLACEHOLDER => ⟨.ed, 0x28, .none⟩
  | .ed29_PLACEHOLDER => ⟨.ed, 0x29, .none⟩
  | .ed2A_PLACEHOLDER => ⟨.ed, 0x2A, .none⟩
  | .ed2B_PLACEHOLDER => ⟨.ed, 0x2B, .none⟩
  | .ed2C_PLACEHOLDER => ⟨.ed, 0x2C, .none⟩
  | .ed2D_PLACEHOLDER => ⟨.ed, 0x2D, .none⟩
  | .ed2E_PLACEHOLDER => ⟨.ed, 0x2E, .none⟩
  | .ed2F_PLACEHOLDER => ⟨.ed, 0x2F, .none⟩
  | .ed30_PLACEHOLDER => ⟨.ed, 0x30, .none⟩
  | .ed31_PLACEHOLDER => ⟨.ed, 0x31, .none⟩
  | .ed32_PLACEHOLDER => ⟨.ed, 0x32, .none⟩
  | .ed33_PLACEHOLDER => ⟨.ed, 0x33, .none⟩
  | .ed34_PLACEHOLDER => ⟨.ed, 0x34, .none⟩
  | .ed35_PLACEHOLDER => ⟨.ed, 0x35, .none⟩
  | .ed36_PLACEHOLDER => ⟨.ed, 0x36, .none⟩
  | .ed37_PLACEHOLDER => ⟨.ed, 0x37, .none⟩
  | .ed38_PLACEHOLDER => ⟨.ed, 0x38, .none⟩
  | .ed39_PLACEHOLDER => ⟨.ed, 0x39, .none⟩
  | .ed3A_PLACEHOLDER => ⟨.ed, 0x3A, .none⟩
  | .ed3B_PLACEHOLDER => ⟨.ed, 0x3B, .none⟩
  | .ed3C_PLACEHOLDER => ⟨.ed, 0x3C, .none⟩
  | .ed3D_PLACEHOLDER => ⟨.ed, 0x3D, .none⟩
  | .ed3E_PLACEHOLDER => ⟨.ed, 0x3E, .none⟩
  | .ed3F_PLACEHOLDER => ⟨.ed, 0x3F, .none⟩
  | .ed40_IN_B_mC => ⟨.ed, 0x40, .none⟩
  | .ed41_OUT_mC_B => ⟨.ed, 0x41, .none⟩
  | .ed42_SBC_HL_BC => ⟨.ed, 0x42, .none⟩
  | .ed43_LD_mnn_BC => ⟨.ed, 0x43, .word⟩
  | .ed44_NEG => ⟨.ed, 0x44, .none⟩
  | .ed45_RETN => ⟨.ed, 0x45, .none⟩
  | .ed46_IM_0 => ⟨.ed, 0x46, .none⟩
  | .ed47_LD_I_A => ⟨.ed, 0x47, .none⟩
  | .ed48_IN_C_mC => ⟨.ed, 0x48, .none⟩
  | .ed49_OUT_mC_C => ⟨.ed, 0x49, .none⟩
  | .ed4A_ADC_HL_BC => ⟨.ed, 0x4A, .none⟩
  | .ed4B_LD_BC_mnn => ⟨.ed, 0x4B, .word⟩
  | .ed4C_NEG => ⟨.ed, 0x4C, .none⟩
  | .ed4D_RETI => ⟨.ed, 0x4D, .none⟩
  | .ed4E_IM_0 => ⟨.ed, 0x4E, .none⟩
  | .ed4F_LD_R_A => ⟨.ed, 0x4F, .none⟩
  | .ed50_IN_D_mC => ⟨.ed, 0x50, .none⟩
  | .ed51_OUT_mC_D => ⟨.ed, 0x51, .none⟩
  | .ed52_SBC_HL_DE => ⟨.ed, 0x52, .none⟩
  | .ed53_LD_mnn_DE => ⟨.ed, 0x53, .word⟩
  | .ed54_NEG => ⟨.ed, 0x54, .none⟩
  | .ed55_RETN => ⟨.ed, 0x55, .none⟩
  | .ed56_IM_1 => ⟨.ed, 0x56, .none⟩
  | .ed57_LD_A_I => ⟨.ed, 0x57, .none⟩
  | .ed58_IN_E_mC => ⟨.ed, 0x58, .none⟩
  | .ed59_OUT_mC_E => ⟨.ed, 0x59, .none⟩
  | .ed5A_ADC_HL_DE => ⟨.ed, 0x5A, .none⟩
  | .ed5B_LD_DE_mnn => ⟨.ed, 0x5B, .word⟩
  | .ed5C_NEG => ⟨.ed, 0x5C, .none⟩
  | .ed5D_RETN => ⟨.ed, 0x5D, .none⟩
  | .ed5E_IM_2 => ⟨.ed, 0x5E, .none⟩
  | .ed5F_LD_A_R => ⟨.ed, 0x5F, .none⟩
  | .ed60_IN_H_mC => ⟨.ed, 0x60, .none⟩
  | .ed61_OUT_mC_H => ⟨.ed, 0x61, .none⟩
  | .ed62_SBC_HL_HL => ⟨.ed, 0x62, .none⟩
  | .ed63_LD_mnn_HL => ⟨.ed, 0x63, .word⟩
  | .ed64_NEG => ⟨.ed, 0x64, .none⟩
  | .ed65_RETN => ⟨.ed, 0x65, .none⟩
  | .ed66_IM_0 => ⟨.ed, 0x66, .none⟩
  | .ed67_RRD => ⟨.ed, 0x67, .none⟩
  | .ed68_IN_L_mC => ⟨.ed, 0x68, .none⟩
  | .ed69_OUT_mC_L => ⟨.ed, 0x69, .none⟩
  | .ed6A_ADC_HL_HL => ⟨.ed, 0x6A, .none⟩
  | .ed6B_LD_HL_mnn => ⟨.ed, 0x6B, .word⟩
  | .ed6C_NEG => ⟨.ed, 0x6C, .none⟩
  | .ed6D_RETN => ⟨.ed, 0x6D, .none⟩
  | .ed6E_IM_0 => ⟨.ed, 0x6E, .none⟩
  | .ed6F_RLD => ⟨.ed, 0x6F, .none⟩
  | .ed70_IN_mC => ⟨.ed, 0x70, .none⟩
  | .ed71_OUT_mC_0 => ⟨.ed, 0x71, .none⟩
  | .ed72_SBC_HL_SP => ⟨.ed, 0x72, .none⟩
  | .ed73_LD_mnn_SP => ⟨.ed, 0x73, .word⟩
  | .ed74_NEG => ⟨.ed, 0x74, .none⟩
  | .ed75_RETN => ⟨.ed, 0x75, .none⟩
  | .ed76_IM_1 => ⟨.ed, 0x76, .none⟩
  | .ed77_PLACEHOLDER => ⟨.ed, 0x77, .none⟩
  | .ed78_IN_A_mC => ⟨.ed, 0x78, .none⟩
  | .ed79_OUT_mC_A => ⟨.ed, 0x79, .none⟩
  | .ed7A_ADC_HL_SP => ⟨.ed, 0x7A, .none⟩
  | .ed7B_LD_SP_mnn => ⟨.ed, 0x7B, .word⟩
  | .ed7C_NEG => ⟨.ed, 0x7C, .none⟩
  | .ed7D_RETN => ⟨.ed, 0x7D, .none⟩
  | .ed7E_IM_2 => ⟨.ed, 0x7E, .none⟩
  | .ed7F_PLACEHOLDER => ⟨.ed, 0x7F, .none⟩
  | .ed80_PLACEHOLDER => ⟨.ed, 0x80, .none⟩
  | .ed81_PLACEHOLDER => ⟨.ed, 0x81, .none⟩
  | .ed82_PLACEHOLDER => ⟨.ed, 0x82, .none⟩
  | .ed83_PLACEHOLDER => ⟨.ed, 0x83, .none⟩
  | .ed84_PLACEHOLDER => ⟨.ed, 0x84, .none⟩
  | .ed85_PLACEHOLDER => ⟨.ed, 0x85, .none⟩
  | .ed86_PLACEHOLDER => ⟨.ed, 0x86, .none⟩
  | .ed87_PLACEHOLDER => ⟨.ed, 0x87, .none⟩
  | .ed88_PLACEHOLDER => ⟨.ed, 0x88, .none⟩
  | .ed89_PLACEHOLDER => ⟨.ed, 0x89, .none⟩
  | .ed8A_PLACEHOLDER => ⟨.ed, 0x8A, .none⟩
  | .ed8B_PLACEHOLDER => ⟨.ed, 0x8B, .none⟩
  | .ed8C_PLACEHOLDER => ⟨.ed, 0x8C, .none⟩
  | .ed8D_PLACEHOLDER => ⟨.ed, 0x8D, .none⟩
  | .ed8E_PLACEHOLDER => ⟨.ed, 0x8E, .none⟩
  | .ed8F_PLACEHOLDER => ⟨.ed, 0x8F, .none⟩
  | .ed90_PLACEHOLDER => ⟨.ed, 0x90, .none⟩
  | .ed91_PLACEHOLDER => ⟨.ed, 0x91, .none⟩
  | .ed92_PLACEHOLDER => ⟨.ed, 0x92, .none⟩
  | .ed93_PLACEHOLDER => ⟨.ed, 0x93, .none⟩
  | .ed94_PLACEHOLDER => ⟨.ed, 0x94, .none⟩
  | .ed95_PLACEHOLDER => ⟨.ed, 0x95, .none⟩
  | .ed96_PLACEHOLDER => ⟨.ed, 0x96, .none⟩
  | .ed97_PLACEHOLDER => ⟨.ed, 0x97, .none⟩
  | .ed98_PLACEHOLDER => ⟨.ed, 0x98, .none⟩
  | .ed99_PLACEHOLDER => ⟨.ed, 0x99, .none⟩
  | .ed9A_PLACEHOLDER => ⟨.ed, 0x9A, .none⟩
  | .ed9B_PLACEHOLDER => ⟨.ed, 0x9B, .none⟩
  | .ed9C_PLACEHOLDER => ⟨.ed, 0x9C, .none⟩
  | .ed9D_PLACEHOLDER => ⟨.ed, 0x9D, .none⟩
  | .ed9E_PLACEHOLDER => ⟨.ed, 0x9E, .none⟩
  | .ed9F_PLACEHOLDER => ⟨.ed, 0x9F, .none⟩
  | .edA0_LDI => ⟨.ed, 0xA0, .none⟩
  | .edA1_CPI => ⟨.ed, 0xA1, .none⟩
  | .edA2_INI => ⟨.ed, 0xA2, .none⟩
  | .edA3_OUTI => ⟨.ed, 0xA3, .none⟩
  | .edA4_PLACEHOLDER => ⟨.ed, 0xA4, .none⟩
  | .edA5_PLACEHOLDER => ⟨.ed, 0xA5, .none⟩
  | .edA6_PLACEHOLDER => ⟨.ed, 0xA6, .none⟩
  | .edA7_PLACEHOLDER => ⟨.ed, 0xA7, .none⟩
  | .edA8_LDD => ⟨.ed, 0xA8, .none⟩
  | .edA9_CPD => ⟨.ed, 0xA9, .none⟩
  | .edAA_IND => ⟨.ed, 0xAA, .none⟩
  | .edAB_OUTD => ⟨.ed, 0xAB, .none⟩
  | .edAC_PLACEHOLDER => ⟨.ed, 0xAC, .none⟩
  | .edAD_PLACEHOLDER => ⟨.ed, 0xAD, .none⟩
  | .edAE_PLACEHOLDER => ⟨.ed, 0xAE, .none⟩
  | .edAF_PLACEHOLDER => ⟨.ed, 0xAF, .none⟩
  | .edB0_LDIR => ⟨.ed, 0xB0, .none⟩
  | .edB1_CPIR => ⟨.ed, 0xB1, .none⟩
  | .edB2_INIR => ⟨.ed, 0xB2, .none⟩
  | .edB3_OTIR => ⟨.ed, 0xB3, .none⟩
  | .edB4_PLACEHOLDER => ⟨.ed, 0xB4, .none⟩
  | .edB5_PLACEHOLDER => ⟨.ed, 0xB5, .none⟩
  | .edB6_PLACEHOLDER => ⟨.ed, 0xB6, .none⟩
  | .edB7_PLACEHOLDER => ⟨.ed, 0xB7, .none⟩
  | .edB8_LDDR => ⟨.ed, 0xB8, .none⟩
  | .edB9_CPDR => ⟨.ed, 0xB9, .none⟩
  | .edBA_INDR => ⟨.ed, 0xBA, .none⟩
  | .edBB_OTDR => ⟨.ed, 0xBB, .none⟩
  | .edBC_PLACEHOLDER => ⟨.ed, 0xBC, .none⟩
  | .edBD_PLACEHOLDER => ⟨.ed, 0xBD, .none⟩
  | .edBE_PLACEHOLDER => ⟨.ed, 0xBE, .none⟩
  | .edBF_PLACEHOLDER => ⟨.ed, 0xBF, .none⟩
  | .edC0_PLACEHOLDER => ⟨.ed, 0xC0, .none⟩
  | .edC1_PLACEHOLDER => ⟨.ed, 0xC1, .none⟩
  | .edC2_PLACEHOLDER => ⟨.ed, 0xC2, .none⟩
  | .edC3_PLACEHOLDER => ⟨.ed, 0xC3, .none⟩
  | .edC4_PLACEHOLDER => ⟨.ed, 0xC4, .none⟩
  | .edC5_PLACEHOLDER => ⟨.ed, 0xC5, .none⟩
  | .edC6_PLACEHOLDER => ⟨.ed, 0xC6, .none⟩
  | .edC7_PLACEHOLDER => ⟨.ed, 0xC7, .none⟩
  | .edC8_PLACEHOLDER => ⟨.ed, 0xC8, .none⟩
  | .edC9_PLACEHOLDER => ⟨.ed, 0xC9, .none⟩
  | .edCA_PLACEHOLDER => ⟨.ed, 0xCA, .none⟩
  | .edCB_PLACEHOLDER => ⟨.ed, 0xCB, .none⟩
  | .edCC_PLACEHOLDER => ⟨.ed, 0xCC, .none⟩
  | .edCD_PLACEHOLDER => ⟨.ed, 0xCD, .none⟩
  | .edCE_PLACEHOLDER => ⟨.ed, 0xCE, .none⟩
  | .edCF_PLACEHOLDER => ⟨.ed, 0xCF, .none⟩
  | .edD0_PLACEHOLDER => ⟨.ed, 0xD0, .none⟩
  | .edD1_PLACEHOLDER => ⟨.ed, 0xD1, .none⟩
  | .edD2_PLACEHOLDER => ⟨.ed, 0xD2, .none⟩
  | .edD3_PLACEHOLDER => ⟨.ed, 0xD3, .none⟩
  | .edD4_PLACEHOLDER => ⟨.ed, 0xD4, .none⟩
  | .edD5_PLACEHOLDER => ⟨.ed, 0xD5, .none⟩
  | .edD6_PLACEHOLDER => ⟨.ed, 0xD6, .none⟩
  | .edD7_PLACEHOLDER => ⟨.ed, 0xD7, .none⟩
  | .edD8_PLACEHOLDER => ⟨.ed, 0xD8, .none⟩
  | .edD9_PLACEHOLDER => ⟨.ed, 0xD9, .none⟩
  | .edDA_PLACEHOLDER => ⟨.ed, 0xDA, .none⟩
  | .edDB_PLACEHOLDER => ⟨.ed, 0xDB, .none⟩
  | .edDC_PLACEHOLDER => ⟨.ed, 0xDC, .none⟩
  | .edDD_PLACEHOLDER => ⟨.ed, 0xDD, .none⟩
  | .edDE_PLACEHOLDER => ⟨.ed, 0xDE, .none⟩
  | .edDF_PLACEHOLDER => ⟨.ed, 0xDF, .none⟩
  | .edE0_PLACEHOLDER => ⟨.ed, 0xE0, .none⟩
  | .edE1_PLACEHOLDER => ⟨.ed, 0xE1, .none⟩
  | .edE2_PLACEHOLDER => ⟨.ed, 0xE2, .none⟩
  | .edE3_PLACEHOLDER => ⟨.ed, 0xE3, .none⟩
  | .edE4_PLACEHOLDER => ⟨.ed, 0xE4, .none⟩
  | .edE5_PLACEHOLDER => ⟨.ed, 0xE5, .none⟩
  | .edE6_PLACEHOLDER => ⟨.ed, 0xE6, .none⟩
  | .edE7_PLACEHOLDER => ⟨.ed, 0xE7, .none⟩
  | .edE8_PLACEHOLDER => ⟨.ed, 0xE8, .none⟩
  | .edE9_PLACEHOLDER => ⟨.ed, 0xE9, .none⟩
  | .edEA_PLACEHOLDER => ⟨.ed, 0xEA, .none⟩
  | .edEB_PLACEHOLDER => ⟨.ed, 0xEB, .none⟩
  | .edEC_PLACEHOLDER => ⟨.ed, 0xEC, .none⟩
  | .edED_PLACEHOLDER => ⟨.ed, 0xED, .none⟩
  | .edEE_PLACEHOLDER => ⟨.ed, 0xEE, .none⟩
  | .edEF_PLACEHOLDER => ⟨.ed, 0xEF, .none⟩
  | .edF0_PLACEHOLDER => ⟨.ed, 0xF0, .none⟩
  | .edF1_PLACEHOLDER => ⟨.ed, 0xF1, .none⟩
  | .edF2_PLACEHOLDER => ⟨.ed, 0xF2, .none⟩
  | .edF3_PLACEHOLDER => ⟨.ed, 0xF3, .none⟩
  | .edF4_PLACEHOLDER => ⟨.ed, 0xF4, .none⟩
  | .edF5_PLACEHOLDER => ⟨.ed, 0xF5, .none⟩
  | .edF6_PLACEHOLDER => ⟨.ed, 0xF6, .none⟩
  | .edF7_PLACEHOLDER => ⟨.ed, 0xF7, .none⟩
  | .edF8_PLACEHOLDER => ⟨.ed, 0xF8, .none⟩
  | .edF9_PLACEHOLDER => ⟨.ed, 0xF9, .none⟩
  | .edFA_PLACEHOLDER => ⟨.ed, 0xFA, .none⟩
  | .edFB_PLACEHOLDER => ⟨.ed, 0xFB, .none⟩
  | .edFC_PLACEHOLDER => ⟨.ed, 0xFC, .none⟩
  | .edFD_PLACEHOLDER => ⟨.ed, 0xFD, .none⟩
  | .edFE_PLACEHOLDER => ⟨.ed, 0xFE, .none⟩
  | .edFF_PLACEHOLDER => ⟨.ed, 0xFF, .none⟩
  | .dd00_NOP => ⟨.dd, 0x00, .none⟩
  | .dd01_LD_BC_nn => ⟨.dd, 0x01, .word⟩
  | .dd02_LD_mBC_A => ⟨.dd, 0x02, .none⟩
  | .dd03_INC_BC => ⟨.dd, 0x03, .none⟩
  | .dd04_INC_B => ⟨.dd, 0x04, .none⟩
  | .dd05_DEC_B => ⟨.dd, 0x05, .none⟩
  | .dd06_LD_B_n => ⟨.dd, 0x06, .byte⟩
  | .dd07_RLCA => ⟨.dd, 0x07, .none⟩
  | .dd08_EX_AF_AFx => ⟨.dd, 0x08, .none⟩
  | .dd09_ADD_IX_BC => ⟨.dd, 0x09, .none⟩
  | .dd0A_LD_A_mBC => ⟨.dd, 0x0A, .none⟩
  | .dd0B_DEC_BC => ⟨.dd, 0x0B, .none⟩
  | .dd0C_INC_C => ⟨.dd, 0x0C, .none⟩
  | .dd0D_DEC_C => ⟨.dd, 0x0D, .none⟩
  | .dd0E_LD_C_n => ⟨.dd, 0x0E, .byte⟩
  | .dd0F_RRCA => ⟨.dd, 0x0F, .none⟩
  | .dd10_DJNZ_e => ⟨.dd, 0x10, .byte⟩
  | .dd11_LD_DE_nn => ⟨.dd, 0x11, .word⟩
  | .dd12_LD_mDE_A => ⟨.dd, 0x12, .none⟩
  | .dd13_INC_DE => ⟨.dd, 0x13, .none⟩
  | .dd14_INC_D => ⟨.dd, 0x14, .none⟩
  | .dd15_DEC_D => ⟨.dd, 0x15, .none⟩
  | .dd16_LD_D_n => ⟨.dd, 0x16, .byte⟩
  | .dd17_RLA => ⟨.dd, 0x17, .none⟩
  | .dd18_JR_e => ⟨.dd, 0x18, .byte⟩
  | .dd19_ADD_IX_DE => ⟨.dd, 0x19, .none⟩
  | .dd1A_LD_A_mDE => ⟨.dd, 0x1A, .none⟩
  | .dd1B_DEC_DE => ⟨.dd, 0x1B, .none⟩
  | .dd1C_INC_E => ⟨.dd, 0x1C, .none⟩
  | .dd1D_DEC_E => ⟨.dd, 0x1D, .none⟩
  | .dd1E_LD_E_n => ⟨.dd, 0x1E, .byte⟩
  | .dd1F_RRA => ⟨.dd, 0x1F, .none⟩
  | .dd20_JR_NZ_e => ⟨.dd, 0x20, .byte⟩
  | .dd21_LD_IX_nn => ⟨.dd, 0x21, .word⟩
  | .dd22_LD_mnn_IX => ⟨.dd, 0x22, .word⟩
  | .dd23_INC_IX => ⟨.dd, 0x23, .none⟩
  | .dd24_INC_IXH => ⟨.dd, 0x24, .none⟩
  | .dd25_DEC_IXH => ⟨.dd, 0x25, .none⟩
  | .dd26_LD_IXH_n => ⟨.dd, 0x26, .byte⟩
  | .dd27_DAA => ⟨.dd, 0x27, .none⟩
  | .dd28_JR_Z_e => ⟨.dd, 0x28, .byte⟩
  | .dd29_ADD_IX_IX => ⟨.dd, 0x29, .none⟩
  | .dd2A_LD_IX_mnn => ⟨.dd, 0x2A, .word⟩
  | .dd2B_DEC_IX => ⟨.dd, 0x2B, .none⟩
  | .dd2C_INC_IXL => ⟨.dd, 0x2C, .none⟩
  | .dd2D_DEC_IXL => ⟨.dd, 0x2D, .none⟩
  | .dd2E_LD_IXL_n => ⟨.dd, 0x2E, .byte⟩
  | .dd2F_CPL => ⟨.dd, 0x2F, .none⟩
  | .dd30_JR_NC_e => ⟨.dd, 0x30, .byte⟩
  | .dd31_LD_SP_nn => ⟨.dd, 0x31, .word⟩
  | .dd32_LD_mnn_A => ⟨.dd, 0x32, .word⟩
  | .dd33_INC_SP => ⟨.dd, 0x33, .none⟩
  | .dd34_INC_mIXd => ⟨.dd, 0x34, .byte⟩
  | .dd35_DEC_mIXd => ⟨.dd, 0x35, .byte⟩
  | .dd36_LD_mIXd_n => ⟨.dd, 0x36, .word⟩
  | .dd37_SCF => ⟨.dd, 0x37, .none⟩
  | .dd38_JR_C_e => ⟨.dd, 0x38, .byte⟩
  | .dd39_ADD_IX_SP => ⟨.dd, 0x39, .none⟩
  | .dd3A_LD_A_mnn => ⟨.dd, 0x3A, .word⟩
  | .dd3B_DEC_SP => ⟨.dd, 0x3B, .none⟩
  | .dd3C_INC_A => ⟨.dd, 0x3C, .none⟩
  | .dd3D_DEC_A => ⟨.dd, 0x3D, .none⟩
  | .dd3E_LD_A_n => ⟨.dd, 0x3E, .byte⟩
  | .dd3F_CCF => ⟨.dd, 0x3F, .none⟩
  | .dd40_LD_B_B => ⟨.dd, 0x40, .none⟩
  | .dd41_LD_B_C => ⟨.dd, 0x41, .none⟩
  | .dd42_LD_B_D => ⟨.dd, 0x42, .none⟩
  | .dd43_LD_B_E => ⟨.dd, 0x43, .none⟩
  | .dd44_LD_B_IXH => ⟨.dd, 0x44, .none⟩
  | .dd45_LD_B_IXL => ⟨.dd, 0x45, .none⟩
  | .dd46_LD_B_mIXd => ⟨.dd, 0x46, .byte⟩
  | .dd47_LD_B_A => ⟨.dd, 0x47, .none⟩
  | .dd48_LD_C_B => ⟨.dd, 0x48, .none⟩
  | .dd49_LD_C_C => ⟨.dd, 0x49, .none⟩
  | .dd4A_LD_C_D => ⟨.dd, 0x4A, .none⟩
  | .dd4B_LD_C_E => ⟨.dd, 0x4B, .none⟩
  | .dd4C_LD_C_IXH => ⟨.dd, 0x4C, .none⟩
  | .dd4D_LD_C_IXL => ⟨.dd, 0x4D, .none⟩
  | .dd4E_LD_C_mIXd => ⟨.dd, 0x4E, .byte⟩
  | .dd4F_LD_C_A => ⟨.dd, 0x4F, .none⟩
  | .dd50_LD_D_B => ⟨.dd, 0x50, .none⟩
  | .dd51_LD_D_C => ⟨.dd, 0x51, .none⟩
  | .dd52_LD_D_D => ⟨.dd, 0x52, .none⟩
  | .dd53_LD_D_E => ⟨.dd, 0x53, .none⟩
  | .dd54_LD_D_IXH => ⟨.dd, 0x54, .none⟩
  | .dd55_LD_D_IXL => ⟨.dd, 0x55, .none⟩
  | .dd56_LD_D_mIXd => ⟨.dd, 0x56, .byte⟩
  | .dd57_LD_D_A => ⟨.dd, 0x57, .none⟩
  | .dd58_LD_E_B => ⟨.dd, 0x58, .none⟩
  | .dd59_LD_E_C => ⟨.dd, 0x59, .none⟩
  | .dd5A_LD_E_D => ⟨.dd, 0x5A, .none⟩
  | .dd5B_LD_E_E => ⟨.dd, 0x5B, .none⟩
  | .dd5C_LD_E_IXH => ⟨.dd, 0x5C, .none⟩
  | .dd5D_LD_E_IXL => ⟨.dd, 0x5D, .none⟩
  | .dd5E_LD_E_mIXd => ⟨.dd, 0x5E, .byte⟩
  | .dd5F_LD_E_A => ⟨.dd, 0x5F, .none⟩
  | .dd60_LD_IXH_B => ⟨.dd, 0x60, .none⟩
  | .dd61_LD_IXH_C => ⟨.dd, 0x61, .none⟩
  | .dd62_LD_IXH_D => ⟨.dd, 0x62, .none⟩
  | .dd63_LD_IXH_E => ⟨.dd, 0x63, .none⟩
  | .dd64_LD_IXH_IXH => ⟨.dd, 0x64, .none⟩
  | .dd65_LD_IXH_IXL => ⟨.dd, 0x65, .none⟩
  | .dd66_LD_H_mIXd => ⟨.dd, 0x66, .byte⟩
  | .dd67_LD_IXH_A => ⟨.dd, 0x67, .none⟩
  | .dd68_LD_IXL_B => ⟨.dd, 0x68, .none⟩
  | .dd69_LD_IXL_C => ⟨.dd, 0x69, .none⟩
  | .dd6A_LD_IXL_D => ⟨.dd, 0x6A, .none⟩
  | .dd6B_LD_IXL_E => ⟨.dd, 0x6B, .none⟩
  | .dd6C_LD_IXL_IXH => ⟨.dd, 0x6C, .none⟩
  | .dd6D_LD_IXL_IXL => ⟨.dd, 0x6D, .none⟩
  | .dd6E_LD_L_mIXd => ⟨.dd, 0x6E, .byte⟩
  | .dd6F_LD_IXL_A => ⟨.dd, 0x6F, .none⟩
  | .dd70_LD_mIXd_B => ⟨.dd, 0x70, .byte⟩
  | .dd71_LD_mIXd_C => ⟨.dd, 0x71, .byte⟩
  | .dd72_LD_mIXd_D => ⟨.dd, 0x72, .byte⟩
  | .dd73_LD_mIXd_E => ⟨.dd, 0x73, .byte⟩
  | .dd74_LD_mIXd_H => ⟨.dd, 0x74, .byte⟩
  | .dd75_LD_mIXd_L => ⟨.dd, 0x75, .byte⟩
  | .dd76_HALT => ⟨.dd, 0x76, .none⟩
  | .dd77_LD_mIXd_A => ⟨.dd, 0x77, .byte⟩
  | .dd78_LD_A_B => ⟨.dd, 0x78, .none⟩
  | .dd79_LD_A_C => ⟨.dd, 0x79, .none⟩
  | .dd7A_LD_A_D => ⟨.dd, 0x7A, .none⟩
  | .dd7B_LD_A_E => ⟨.dd, 0x7B, .none⟩
  | .dd7C_LD_A_IXH => ⟨.dd, 0x7C, .none⟩
  | .dd7D_LD_A_IXL => ⟨.dd, 0x7D, .none⟩
  | .dd7E_LD_A_mIXd => ⟨.dd, 0x7E, .byte⟩
  | .dd7F_LD_A_A => ⟨.dd, 0x7F, .none⟩
  | .dd80_ADD_A_B => ⟨.dd, 0x80, .none⟩
  | .dd81_ADD_A_C => ⟨.dd, 0x81, .none⟩
  | .dd82_ADD_A_D => ⟨.dd, 0x82, .none⟩
  | .dd83_ADD_A_E => ⟨.dd, 0x83, .none⟩
  | .dd84_ADD_A_IXH => ⟨.dd, 0x84, .none⟩
  | .dd85_ADD_A_IXL => ⟨.dd, 0x85, .none⟩
  | .dd86_ADD_A_mIXd => ⟨.dd, 0x86, .byte⟩
  | .dd87_ADD_A_A => ⟨.dd, 0x87, .none⟩
  | .dd88_ADC_A_B => ⟨.dd, 0x88, .none⟩
  | .dd89_ADC_A_C => ⟨.dd, 0x89, .none⟩
  | .dd8A_ADC_A_D => ⟨.dd, 0x8A, .none⟩
  | .dd8B_ADC_A_E => ⟨.dd, 0x8B, .none⟩
  | .dd8C_ADC_A_IXH => ⟨.dd, 0x8C, .none⟩
  | .dd8D_ADC_A_IXL => ⟨.dd, 0x8D, .none⟩
  | .dd8E_ADC_A_mIXd => ⟨.dd, 0x8E, .byte⟩
  | .dd8F_ADC_A_A => ⟨.dd, 0x8F, .none⟩
  | .dd90_SUB_B => ⟨.dd, 0x90, .none⟩
  | .dd91_SUB_C => ⟨.dd, 0x91, .none⟩
  | .dd92_SUB_D => ⟨.dd, 0x92, .none⟩
  | .dd93_SUB_E => ⟨.dd, 0x93, .none⟩
  | .dd94_SUB_IXH => ⟨.dd, 0x94, .none⟩
  | .dd95_SUB_IXL => ⟨.dd, 0x95, .none⟩
  | .dd96_SUB_mIXd => ⟨.dd, 0x96, .byte⟩
  | .dd97_SUB_A => ⟨.dd, 0x97, .none⟩
  | .dd98_SBC_A_B => ⟨.dd, 0x98, .none⟩
  | .dd99_SBC_A_C => ⟨.dd, 0x99, .none⟩
  | .dd9A_SBC_A_D => ⟨.dd, 0x9A, .none⟩
  | .dd9B_SBC_A_E => ⟨.dd, 0x9B, .none⟩
  | .dd9C_SBC_A_IXH => ⟨.dd, 0x9C, .none⟩
  | .dd9D_SBC_A_IXL => ⟨.dd, 0x9D, .none⟩
  | .dd9E_SBC_A_mIXd => ⟨.dd, 0x9E, .byte⟩
  | .dd9F_SBC_A_A => ⟨.dd, 0x9F, .none⟩
  | .ddA0_AND_B => ⟨.dd, 0xA0, .none⟩
  | .ddA1_AND_C => ⟨.dd, 0xA1, .none⟩
  | .ddA2_AND_D => ⟨.dd, 0xA2, .none⟩
  | .ddA3_AND_E => ⟨.dd, 0xA3, .none⟩
  | .ddA4_AND_IXH => ⟨.dd, 0xA4, .none⟩
  | .ddA5_AND_IXL => ⟨.dd, 0xA5, .none⟩
  | .ddA6_AND_mIXd => ⟨.dd, 0xA6, .byte⟩
  | .ddA7_AND_A => ⟨.dd, 0xA7, .none⟩
  | .ddA8_XOR_B => ⟨.dd, 0xA8, .none⟩
  | .ddA9_XOR_C => ⟨.dd, 0xA9, .none⟩
  | .ddAA_XOR_D => ⟨.dd, 0xAA, .none⟩
  | .ddAB_XOR_E => ⟨.dd, 0xAB, .none⟩
  | .ddAC_XOR_IXH => ⟨.dd, 0xAC, .none⟩
  | .ddAD_XOR_IXL => ⟨.dd, 0xAD, .none⟩
  | .ddAE_XOR_mIXd => ⟨.dd, 0xAE, .byte⟩
  | .ddAF_XOR_A => ⟨.dd, 0xAF, .none⟩
  | .ddB0_OR_B => ⟨.dd, 0xB0, .none⟩
  | .ddB1_OR_C => ⟨.dd, 0xB1, .none⟩
  | .ddB2_OR_D => ⟨.dd, 0xB2, .none⟩
  | .ddB3_OR_E => ⟨.dd, 0xB3, .none⟩
  | .ddB4_OR_IXH => ⟨.dd, 0xB4, .none⟩
  | .ddB5_OR_IXL => ⟨.dd, 0xB5, .none⟩
  | .ddB6_OR_mIXd => ⟨.dd, 0xB6, .byte⟩
  | .ddB7_OR_A => ⟨.dd, 0xB7, .none⟩
  | .ddB8_CP_B => ⟨.dd, 0xB8, .none⟩
  | .ddB9_CP_C => ⟨.dd, 0xB9, .none⟩
  | .ddBA_CP_D => ⟨.dd, 0xBA, .none⟩
  | .ddBB_CP_E => ⟨.dd, 0xBB, .none⟩
  | .ddBC_CP_IXH => ⟨.dd, 0xBC, .none⟩
  | .ddBD_CP_IXL => ⟨.dd, 0xBD, .none⟩
  | .ddBE_CP_mIXd => ⟨.dd, 0xBE, .byte⟩
  | .ddBF_CP_A => ⟨.dd, 0xBF, .none⟩
  | .ddC0_RET_NZ => ⟨.dd, 0xC0, .none⟩
  | .ddC1_POP_BC => ⟨.dd, 0xC1, .none⟩
  | .ddC2_JP_NZ_nn => ⟨.dd, 0xC2, .word⟩
  | .ddC3_JP_nn => ⟨.dd, 0xC3, .word⟩
  | .ddC4_CALL_NZ_nn => ⟨.dd, 0xC4, .word⟩
  | .ddC5_PUSH_BC => ⟨.dd, 0xC5, .none⟩
  | .ddC6_ADD_A_n => ⟨.dd, 0xC6, .byte⟩
  | .ddC7_RST_00H => ⟨.dd, 0xC7, .none⟩
  | .ddC8_RET_Z => ⟨.dd, 0xC8, .none⟩
  | .ddC9_RET => ⟨.dd, 0xC9, .none⟩
  | .ddCA_JP_Z_nn => ⟨.dd, 0xCA, .word⟩
  | .ddCB_PREFIX_DDCB => ⟨.dd, 0xCB, .none⟩
  | .ddCC_CALL_Z_nn => ⟨.dd, 0xCC, .word⟩
  | .ddCD_CALL_nn => ⟨.dd, 0xCD, .word⟩
  | .ddCE_ADC_A_n => ⟨.dd, 0xCE, .byte⟩
  | .ddCF_RST_08H => ⟨.dd, 0xCF, .none⟩
  | .ddD0_RET_NC => ⟨.dd, 0xD0, .none⟩
  | .ddD1_POP_DE => ⟨.dd, 0xD1, .none⟩
  | .ddD2_JP_NC_nn => ⟨.dd, 0xD2, .word⟩
  | .ddD3_OUT_mn_A => ⟨.dd, 0xD3, .byte⟩
  | .ddD4_CALL_NC_nn => ⟨.dd, 0xD4, .word⟩
  | .ddD5_PUSH_DE => ⟨.dd, 0xD5, .none⟩
  | .ddD6_SUB_n => ⟨.dd, 0xD6, .byte⟩
  | .ddD7_RST_10H => ⟨.dd, 0xD7, .none⟩
  | .ddD8_RET_C => ⟨.dd, 0xD8, .none⟩
  | .ddD9_EXX => ⟨.dd, 0xD9, .none⟩
  | .ddDA_JP_C_nn => ⟨.dd, 0xDA, .word⟩
  | .ddDB_IN_A_mn => ⟨.dd, 0xDB, .byte⟩
  | .ddDC_CALL_C_nn => ⟨.dd, 0xDC, .word⟩
  | .ddDD_PLACEHOLDER => ⟨.dd, 0xDD, .none⟩
  | .ddDE_SBC_A_n => ⟨.dd, 0xDE, .byte⟩
  | .ddDF_RST_18H => ⟨.dd, 0xDF, .none⟩
  | .ddE0_RET_PO => ⟨.dd, 0xE0, .none⟩
  | .ddE1_POP_IX => ⟨.dd, 0xE1, .none⟩
  | .ddE2_JP_PO_nn => ⟨.dd, 0xE2, .word⟩
  | .ddE3_EX_mSP_IX => ⟨.dd, 0xE3, .none⟩
  | .ddE4_CALL_PO_nn => ⟨.dd, 0xE4, .word⟩
  | .ddE5_PUSH_IX => ⟨.dd, 0xE5, .none⟩
  | .ddE6_AND_n => ⟨.dd, 0xE6, .byte⟩
  | .ddE7_RST_20H => ⟨.dd, 0xE7, .none⟩
  | .ddE8_RET_PE => ⟨.dd, 0xE8, .none⟩
  | .ddE9_JP_mIX => ⟨.dd, 0xE9, .none⟩
  | .ddEA_JP_PE_nn => ⟨.dd, 0xEA, .word⟩
  | .ddEB_EX_DE_HL => ⟨.dd, 0xEB, .none⟩
  | .ddEC_CALL_PE_nn => ⟨.dd, 0xEC, .word⟩
  | .ddED_PLACEHOLDER => ⟨.dd, 0xED, .none⟩
  | .ddEE_XOR_n => ⟨.dd, 0xEE, .byte⟩
  | .ddEF_RST_28H => ⟨.dd, 0xEF, .none⟩
  | .ddF0_RET_P => ⟨.dd, 0xF0, .none⟩
  | .ddF1_POP_AF => ⟨.dd, 0xF1, .none⟩
  | .ddF2_JP_P_nn => ⟨.dd, 0xF2, .word⟩
  | .ddF3_DI => ⟨.dd, 0xF3, .none⟩
  | .ddF4_CALL_P_nn => ⟨.dd, 0xF4, .word⟩
  | .ddF5_PUSH_AF => ⟨.dd, 0xF5, .none⟩
  | .ddF6_OR_n => ⟨.dd, 0xF6, .byte⟩
  | .ddF7_RST_30H => ⟨.dd, 0xF7, .none⟩
  | .ddF8_RET_M => ⟨.dd, 0xF8, .none⟩
  | .ddF9_LD_SP_IX => ⟨.dd, 0xF9, .none⟩
  | .ddFA_JP_M_nn => ⟨.dd, 0xFA, .word⟩
  | .ddFB_EI => ⟨.dd, 0xFB, .none⟩
  | .ddFC_CALL_M_nn => ⟨.dd, 0xFC, .word⟩
  | .ddFD_PLACEHOLDER => ⟨.dd, 0xFD, .none⟩
  | .ddFE_CP_n => ⟨.dd, 0xFE, .byte⟩
  | .ddFF_RST_38H => ⟨.dd, 0xFF, .none⟩
  | .fd00_NOP => ⟨.fd, 0x00, .none⟩
  | .fd01_LD_BC_nn => ⟨.fd, 0x01, .word⟩
  | .fd02_LD_mBC_A => ⟨.fd, 0x02, .none⟩
  | .fd03_INC_BC => ⟨.fd, 0x03, .none⟩
  | .fd04_INC_B => ⟨.fd, 0x04, .none⟩
  | .fd05_DEC_B => ⟨.fd, 0x05, .none⟩
  | .fd06_LD_B_n => ⟨.fd, 0x06, .byte⟩
  | .fd07_RLCA => ⟨.fd, 0x07, .none⟩
  | .fd08_EX_AF_AFx => ⟨.fd, 0x08, .none⟩
  | .fd09_ADD_IY_BC => ⟨.fd, 0x09, .none⟩
  | .fd0A_LD_A_mBC => ⟨.fd, 0x0A, .none⟩
  | .fd0B_DEC_BC => ⟨.fd, 0x0B, .none⟩
  | .fd0C_INC_C => ⟨.fd, 0x0C, .none⟩
  | .fd0D_DEC_C => ⟨.fd, 0x0D, .none⟩
  | .fd0E_LD_C_n => ⟨.fd, 0x0E, .byte⟩
  | .fd0F_RRCA => ⟨.fd, 0x0F, .none⟩
  | .fd10_DJNZ_e => ⟨.fd, 0x10, .byte⟩
  | .fd11_LD_DE_nn => ⟨.fd, 0x11, .word⟩
  | .fd12_LD_mDE_A => ⟨.fd, 0x12, .none⟩
  | .fd13_INC_DE => ⟨.fd, 0x13, .none⟩
  | .fd14_INC_D => ⟨.fd, 0x14, .none⟩
  | .fd15_DEC_D => ⟨.fd, 0x15, .none⟩
  | .fd16_LD_D_n => ⟨.fd, 0x16, .byte⟩
  | .fd17_RLA => ⟨.fd, 0x17, .none⟩
  | .fd18_JR_e => ⟨.fd, 0x18, .byte⟩
  | .fd19_ADD_IY_DE => ⟨.fd, 0x19, .none⟩
  | .fd1A_LD_A_mDE => ⟨.fd, 0x1A, .none⟩
  | .fd1B_DEC_DE => ⟨.fd, 0x1B, .none⟩
  | .fd1C_INC_E => ⟨.fd, 0x1C, .none⟩
  | .fd1D_DEC_E => ⟨.fd, 0x1D, .none⟩
  | .fd1E_LD_E_n => ⟨.fd, 0x1E, .byte⟩
  | .fd1F_RRA => ⟨.fd, 0x1F, .none⟩
  | .fd20_JR_NZ_e => ⟨.fd, 0x20, .byte⟩
  | .fd21_LD_IY_nn => ⟨.fd, 0x21, .word⟩
  | .fd22_LD_mnn_IY => ⟨.fd, 0x22, .word⟩
  | .fd23_INC_IY => ⟨.fd, 0x23, .none⟩
  | .fd24_INC_IYH => ⟨.fd, 0x24, .none⟩
  | .fd25_DEC_IYH => ⟨.fd, 0x25, .none⟩
  | .fd26_LD_IYH_n => ⟨.fd, 0x26, .byte⟩
  | .fd27_DAA => ⟨.fd, 0x27, .none⟩
  | .fd28_JR_Z_e => ⟨.fd, 0x28, .byte⟩
  | .fd29_ADD_IY_IY => ⟨.fd, 0x29, .none⟩
  | .fd2A_LD_IY_mnn => ⟨.fd, 0x2A, .word⟩
  | .fd2B_DEC_IY => ⟨.fd, 0x2B, .none⟩
  | .fd2C_INC_IYL => ⟨.fd, 0x2C, .none⟩
  | .fd2D_DEC_IYL => ⟨.fd, 0x2D, .none⟩
  | .fd2E_LD_IYL_n => ⟨.fd, 0x2E, .byte⟩
  | .fd2F_CPL => ⟨.fd, 0x2F, .none⟩
  | .fd30_JR_NC_e => ⟨.fd, 0x30, .byte⟩
  | .fd31_LD_SP_nn => ⟨.fd, 0x31, .word⟩
  | .fd32_LD_mnn_A => ⟨.fd, 0x32, .word⟩
  | .fd33_INC_SP => ⟨.fd, 0x33, .none⟩
  | .fd34_INC_mIYd => ⟨.fd, 0x34, .byte⟩
  | .fd35_DEC_mIYd => ⟨.fd, 0x35, .byte⟩
  | .fd36_LD_mIYd_n => ⟨.fd, 0x36, .word⟩
  | .fd37_SCF => ⟨.fd, 0x37, .none⟩
  | .fd38_JR_C_e => ⟨.fd, 0x38, .byte⟩
  | .fd39_ADD_IY_SP => ⟨.fd, 0x39, .none⟩
  | .fd3A_LD_A_mnn => ⟨.fd, 0x3A, .word⟩
  | .fd3B_DEC_SP => ⟨.fd, 0x3B, .none⟩
  | .fd3C_INC_A => ⟨.fd, 0x3C, .none⟩
  | .fd3D_DEC_A => ⟨.fd, 0x3D, .none⟩
  | .fd3E_LD_A_n => ⟨.fd, 0x3E, .byte⟩
  | .fd3F_CCF => ⟨.fd, 0x3F, .none⟩
  | .fd40_LD_B_B => ⟨.fd, 0x40, .none⟩
  | .fd41_LD_B_C => ⟨.fd, 0x41, .none⟩
  | .fd42_LD_B_D => ⟨.fd, 0x42, .none⟩
  | .fd43_LD_B_E => ⟨.fd, 0x43, .none⟩
  | .fd44_LD_B_IYH => ⟨.fd, 0x44, .none⟩
  | .fd45_LD_B_IYL => ⟨.fd, 0x45, .none⟩
  | .fd46_LD_B_mIYd => ⟨.fd, 0x46, .byte⟩
  | .fd47_LD_B_A => ⟨.fd, 0x47, .none⟩
  | .fd48_LD_C_B => ⟨.fd, 0x48, .none⟩
  | .fd49_LD_C_C => ⟨.fd, 0x49, .none⟩
  | .fd4A_LD_C_D => ⟨.fd, 0x4A, .none⟩
  | .fd4B_LD_C_E => ⟨.fd, 0x4B, .none⟩
  | .fd4C_LD_C_IYH => ⟨.fd, 0x4C, .none⟩
  | .fd4D_LD_C_IYL => ⟨.fd, 0x4D, .none⟩
  | .fd4E_LD_C_mIYd => ⟨.fd, 0x4E, .byte⟩
  | .fd4F_LD_C_A => ⟨.fd, 0x4F, .none⟩
  | .fd50_LD_D_B => ⟨.fd, 0x50, .none⟩
  | .fd51_LD_D_C => ⟨.fd, 0x51, .none⟩
  | .fd52_LD_D_D => ⟨.fd, 0x52, .none⟩
  | .fd53_LD_D_E => ⟨.fd, 0x53, .none⟩
  | .fd54_LD_D_IYH => ⟨.fd, 0x54, .none⟩
  | .fd55_LD_D_IYL => ⟨.fd, 0x55, .none⟩
  | .fd56_LD_D_mIYd => ⟨.fd, 0x56, .byte⟩
  | .fd57_LD_D_A => ⟨.fd, 0x57, .none⟩
  | .fd58_LD_E_B => ⟨.fd, 0x58, .none⟩
  | .fd59_LD_E_C => ⟨.fd, 0x59, .none⟩
  | .fd5A_LD_E_D => ⟨.fd, 0x5A, .none⟩
  | .fd5B_LD_E_E => ⟨.fd, 0x5B, .none⟩
  | .fd5C_LD_E_IYH => ⟨.fd, 0x5C, .none⟩
  | .fd5D_LD_E_IYL => ⟨.fd, 0x5D, .none⟩
  | .fd5E_LD_E_mIYd => ⟨.fd, 0x5E, .byte⟩
  | .fd5F_LD_E_A => ⟨.fd, 0x5F, .none⟩
  | .fd60_LD_IYH_B => ⟨.fd, 0x60, .none⟩
  | .fd61_LD_IYH_C => ⟨.fd, 0x61, .none⟩
  | .fd62_LD_IYH_D => ⟨.fd, 0x62, .none⟩
  | .fd63_LD_IYH_E => ⟨.fd, 0x63, .none⟩
  | .fd64_LD_IYH_IYH => ⟨.fd, 0x64, .none⟩
  | .fd65_LD_IYH_IYL => ⟨.fd, 0x65, .none⟩
  | .fd66_LD_H_mIYd => ⟨.fd, 0x66, .byte⟩
  | .fd67_LD_IYH_A => ⟨.fd, 0x67, .none⟩
  | .fd68_LD_IYL_B => ⟨.fd, 0x68, .none⟩
  | .fd69_LD_IYL_C => ⟨.fd, 0x69, .none⟩
  | .fd6A_LD_IYL_D => ⟨.fd, 0x6A, .none⟩
  | .fd6B_LD_IYL_E => ⟨.fd, 0x6B, .none⟩
  | .fd6C_LD_IYL_IYH => ⟨.fd, 0x6C, .none⟩
  | .fd6D_LD_IYL_IYL => ⟨.fd, 0x6D, .none⟩
  | .fd6E_LD_L_mIYd => ⟨.fd, 0x6E, .byte⟩
  | .fd6F_LD_IYL_A => ⟨.fd, 0x6F, .none⟩
  | .fd70_LD_mIYd_B => ⟨.fd, 0x70, .byte⟩
  | .fd71_LD_mIYd_C => ⟨.fd, 0x71, .byte⟩
  | .fd72_LD_mIYd_D => ⟨.fd, 0x72, .byte⟩
  | .fd73_LD_mIYd_E => ⟨.fd, 0x73, .byte⟩
  | .fd74_LD_mIYd_H => ⟨.fd, 0x74, .byte⟩
  | .fd75_LD_mIYd_L => ⟨.fd, 0x75, .byte⟩
  | .fd76_HALT => ⟨.fd, 0x76, .none⟩
  | .fd77_LD_mIYd_A => ⟨.fd, 0x77, .byte⟩
  | .fd78_LD_A_B => ⟨.fd, 0x78, .none⟩
  | .fd79_LD_A_C => ⟨.fd, 0x79, .none⟩
  | .fd7A_LD_A_D => ⟨.fd, 0x7A, .none⟩
  | .fd7B_LD_A_E => ⟨.fd, 0x7B, .none⟩
  | .fd7C_LD_A_IYH => ⟨.fd, 0x7C, .none⟩
  | .fd7D_LD_A_IYL => ⟨.fd, 0x7D, .none⟩
  | .fd7E_LD_A_mIYd => ⟨.fd, 0x7E, .byte⟩
  | .fd7F_LD_A_A => ⟨.fd, 0x7F, .none⟩
  | .fd80_ADD_A_B => ⟨.fd, 0x80, .none⟩
  | .fd81_ADD_A_C => ⟨.fd, 0x81, .none⟩
  | .fd82_ADD_A_D => ⟨.fd, 0x82, .none⟩
  | .fd83_ADD_A_E => ⟨.fd, 0x83, .none⟩
  | .fd84_ADD_A_IYH => ⟨.fd, 0x84, .none⟩
  | .fd85_ADD_A_IYL => ⟨.fd, 0x85, .none⟩
  | .fd86_ADD_A_mIYd => ⟨.fd, 0x86, .byte⟩
  | .fd87_ADD_A_A => ⟨.fd, 0x87, .none⟩
  | .fd88_ADC_A_B => ⟨.fd, 0x88, .none⟩
  | .fd89_ADC_A_C => ⟨.fd, 0x89, .none⟩
  | .fd8A_ADC_A_D => ⟨.fd, 0x8A, .none⟩
  | .fd8B_ADC_A_E => ⟨.fd, 0x8B, .none⟩
  | .fd8C_ADC_A_IYH => ⟨.fd, 0x8C, .none⟩
  | .fd8D_ADC_A_IYL => ⟨.fd, 0x8D, .none⟩
  | .fd8E_ADC_A_mIYd => ⟨.fd, 0x8E, .byte⟩
  | .fd8F_ADC_A_A => ⟨.fd, 0x8F, .none⟩
  | .fd90_SUB_B => ⟨.fd, 0x90, .none⟩
  | .fd91_SUB_C => ⟨.fd, 0x91, .none⟩
  | .fd92_SUB_D => ⟨.fd, 0x92, .none⟩
  | .fd93_SUB_E => ⟨.fd, 0x93, .none⟩
  | .fd94_SUB_IYH => ⟨.fd, 0x94, .none⟩
  | .fd95_SUB_IYL => ⟨.fd, 0x95, .none⟩
  | .fd96_SUB_mIYd => ⟨.fd, 0x96, .byte⟩
  | .fd97_SUB_A => ⟨.fd, 0x97, .none⟩
  | .fd98_SBC_A_B => ⟨.fd, 0x98, .none⟩
  | .fd99_SBC_A_C => ⟨.fd, 0x99, .none⟩
  | .fd9A_SBC_A_D => ⟨.fd, 0x9A, .none⟩
  | .fd9B_SBC_A_E => ⟨.fd, 0x9B, .none⟩
  | .fd9C_SBC_A_IYH => ⟨.fd, 0x9C, .none⟩
  | .fd9D_SBC_A_IYL => ⟨.fd, 0x9D, .none⟩
  | .fd9E_SBC_A_mIYd => ⟨.fd, 0x9E, .byte⟩
  | .fd9F_SBC_A_A => ⟨.fd, 0x9F, .none⟩
  | .fdA0_AND_B => ⟨.fd, 0xA0, .none⟩
  | .fdA1_AND_C => ⟨.fd, 0xA1, .none⟩
  | .fdA2_AND_D => ⟨.fd, 0xA2, .none⟩
  | .fdA3_AND_E => ⟨.fd, 0xA3, .none⟩
  | .fdA4_AND_IYH => ⟨.fd, 0xA4, .none⟩
  | .fdA5_AND_IYL => ⟨.fd, 0xA5, .none⟩
  | .fdA6_AND_mIYd => ⟨.fd, 0xA6, .byte⟩
  | .fdA7_AND_A => ⟨.fd, 0xA7, .none⟩
  | .fdA8_XOR_B => ⟨.fd, 0xA8, .none⟩
  | .fdA9_XOR_C => ⟨.fd, 0xA9, .none⟩
  | .fdAA_XOR_D => ⟨.fd, 0xAA, .none⟩
  | .fdAB_XOR_E => ⟨.fd, 0xAB, .none⟩
  | .fdAC_XOR_IYH => ⟨.fd, 0xAC, .none⟩
  | .fdAD_XOR_IYL => ⟨.fd, 0xAD, .none⟩
  | .fdAE_XOR_mIYd => ⟨.fd, 0xAE, .byte⟩
  | .fdAF_XOR_A => ⟨.fd, 0xAF, .none⟩
  | .fdB0_OR_B => ⟨.fd, 0xB0, .none⟩
  | .fdB1_OR_C => ⟨.fd, 0xB1, .none⟩
  | .fdB2_OR_D => ⟨.fd, 0xB2, .none⟩
  | .fdB3_OR_E => ⟨.fd, 0xB3, .none⟩
  | .fdB4_OR_IYH => ⟨.fd, 0xB4, .none⟩
  | .fdB5_OR_IYL => ⟨.fd, 0xB5, .none⟩
  | .fdB6_OR_mIYd => ⟨.fd, 0xB6, .byte⟩
  | .fdB7_OR_A => ⟨.fd, 0xB7, .none⟩
  | .fdB8_CP_B => ⟨.fd, 0xB8, .none⟩
  | .fdB9_CP_C => ⟨.fd, 0xB9, .none⟩
  | .fdBA_CP_D => ⟨.fd, 0xBA, .none⟩
  | .fdBB_CP_E => ⟨.fd, 0xBB, .none⟩
  | .fdBC_CP_IYH => ⟨.fd, 0xBC, .none⟩
  | .fdBD_CP_IYL => ⟨.fd, 0xBD, .none⟩
  | .fdBE_CP_mIYd => ⟨.fd, 0xBE, .byte⟩
  | .fdBF_CP_A => ⟨.fd, 0xBF, .none⟩
  | .fdC0_RET_NZ => ⟨.fd, 0xC0, .none⟩
  | .fdC1_POP_BC => ⟨.fd, 0xC1, .none⟩
  | .fdC2_JP_NZ_nn => ⟨.fd, 0xC2, .word⟩
  | .fdC3_JP_nn => ⟨.fd, 0xC3, .word⟩
  | .fdC4_CALL_NZ_nn => ⟨.fd, 0xC4, .word⟩
  | .fdC5_PUSH_BC => ⟨.fd, 0xC5, .none⟩
  | .fdC6_ADD_A_n => ⟨.fd, 0xC6, .byte⟩
  | .fdC7_RST_00H => ⟨.fd, 0xC7, .none⟩
  | .fdC8_RET_Z => ⟨.fd, 0xC8, .none⟩
  | .fdC9_RET => ⟨.fd, 0xC9, .none⟩
  | .fdCA_JP_Z_nn => ⟨.fd, 0xCA, .word⟩
  | .fdCB_PREFIX_FDCB => ⟨.fd, 0xCB, .none⟩
  | .fdCC_CALL_Z_nn => ⟨.fd, 0xCC, .word⟩
  | .fdCD_CALL_nn => ⟨.fd, 0xCD, .word⟩
  | .fdCE_ADC_A_n => ⟨.fd, 0xCE, .byte⟩
  | .fdCF_RST_08H => ⟨.fd, 0xCF, .none⟩
  | .fdD0_RET_NC => ⟨.fd, 0xD0, .none⟩
  | .fdD1_POP_DE => ⟨.fd, 0xD1, .none⟩
  | .fdD2_JP_NC_nn => ⟨.fd, 0xD2, .word⟩
  | .fdD3_OUT_mn_A => ⟨.fd, 0xD3, .byte⟩
  | .fdD4_CALL_NC_nn => ⟨.fd, 0xD4, .word⟩
  | .fdD5_PUSH_DE => ⟨.fd, 0xD5, .none⟩
  | .fdD6_SUB_n => ⟨.fd, 0xD6, .byte⟩
  | .fdD7_RST_10H => ⟨.fd, 0xD7, .none⟩
  | .fdD8_RET_C => ⟨.fd, 0xD8, .none⟩
  | .fdD9_EXX => ⟨.fd, 0xD9, .none⟩
  | .fdDA_JP_C_nn => ⟨.fd, 0xDA, .word⟩
  | .fdDB_IN_A_mn => ⟨.fd, 0xDB, .byte⟩
  | .fdDC_CALL_C_nn => ⟨.fd, 0xDC, .word⟩
  | .fdDD_PLACEHOLDER => ⟨.fd, 0xDD, .none⟩
  | .fdDE_SBC_A_n => ⟨.fd, 0xDE, .byte⟩
  | .fdDF_RST_18H => ⟨.fd, 0xDF, .none⟩
  | .fdE0_RET_PO => ⟨.fd, 0xE0, .none⟩
  | .fdE1_POP_IY => ⟨.fd, 0xE1, .none⟩
  | .fdE2_JP_PO_nn => ⟨.fd, 0xE2, .word⟩
  | .fdE3_EX_mSP_IY => ⟨.fd, 0xE3, .none⟩
  | .fdE4_CALL_PO_nn => ⟨.fd, 0xE4, .word⟩
  | .fdE5_PUSH_IY => ⟨.fd, 0xE5, .none⟩
  | .fdE6_AND_n => ⟨.fd, 0xE6, .byte⟩
  | .fdE7_RST_20H => ⟨.fd, 0xE7, .none⟩
  | .fdE8_RET_PE => ⟨.fd, 0xE8, .none⟩
  | .fdE9_JP_mIY => ⟨.fd, 0xE9, .none⟩
  | .fdEA_JP_PE_nn => ⟨.fd, 0xEA, .word⟩
  | .fdEB_EX_DE_HL => ⟨.fd, 0xEB, .none⟩
  | .fdEC_CALL_PE_nn => ⟨.fd, 0xEC, .word⟩
  | .fdED_PLACEHOLDER => ⟨.fd, 0xED, .none⟩
  | .fdEE_XOR_n => ⟨.fd, 0xEE, .byte⟩
  | .fdEF_RST_28H => ⟨.fd, 0xEF, .none⟩
  | .fdF0_RET_P => ⟨.fd, 0xF0, .none⟩
  | .fdF1_POP_AF => ⟨.fd, 0xF1, .none⟩
  | .fdF2_JP_P_nn => ⟨.fd, 0xF2, .word⟩
  | .fdF3_DI => ⟨.fd, 0xF3, .none⟩
  | .fdF4_CALL_P_nn => ⟨.fd, 0xF4, .word⟩
  | .fdF5_PUSH_AF => ⟨.fd, 0xF5, .none⟩
  | .fdF6_OR_n => ⟨.fd, 0xF6, .byte⟩
  | .fdF7_RST_30H => ⟨.fd, 0xF7, .none⟩
  | .fdF8_RET_M => ⟨.fd, 0xF8, .none⟩
  | .fdF9_LD_SP_IY => ⟨.fd, 0xF9, .none⟩
  | .fdFA_JP_M_nn => ⟨.fd, 0xFA, .word⟩
  | .fdFB_EI => ⟨.fd, 0xFB, .none⟩
  | .fdFC_CALL_M_nn => ⟨.fd, 0xFC, .word⟩
  | .fdFD_PLACEHOLDER => ⟨.fd, 0xFD, .none⟩
  | .fdFE_CP_n => ⟨.fd, 0xFE, .byte⟩
  | .fdFF_RST_38H => ⟨.fd, 0xFF, .none⟩
  | .ddcb00_RLC_mIXd_B => ⟨.ddcb, 0x00, .byte⟩
  | .ddcb01_RLC_mIXd_C => ⟨.ddcb, 0x01, .byte⟩
  | .ddcb02_RLC_mIXd_D => ⟨.ddcb, 0x02, .byte⟩
  | .ddcb03_RLC_mIXd_E => ⟨.ddcb, 0x03, .byte⟩
  | .ddcb04_RLC_mIXd_H => ⟨.ddcb, 0x04, .byte⟩
  | .ddcb05_RLC_mIXd_L => ⟨.ddcb, 0x05, .byte⟩
  | .ddcb06_RLC_mIXd => ⟨.ddcb, 0x06, .byte⟩
  | .ddcb07_RLC_mIXd_A => ⟨.ddcb, 0x07, .byte⟩
  | .ddcb08_RRC_mIXd_B => ⟨.ddcb, 0x08, .byte⟩
  | .ddcb09_RRC_mIXd_C => ⟨.ddcb, 0x09, .byte⟩
  | .ddcb0A_RRC_mIXd_D => ⟨.ddcb, 0x0A, .byte⟩
  | .ddcb0B_RRC_mIXd_E => ⟨.ddcb, 0x0B, .byte⟩
  | .ddcb0C_RRC_mIXd_H => ⟨.ddcb, 0x0C, .byte⟩
  | .ddcb0D_RRC_mIXd_L => ⟨.ddcb, 0x0D, .byte⟩
  | .ddcb0E_RRC_mIXd => ⟨.ddcb, 0x0E, .byte⟩
  | .ddcb0F_RRC_mIXd_A => ⟨.ddcb, 0x0F, .byte⟩
  | .ddcb10_RL_mIXd_B => ⟨.ddcb, 0x10, .byte⟩
  | .ddcb11_RL_mIXd_C => ⟨.ddcb, 0x11, .byte⟩
  | .ddcb12_RL_mIXd_D => ⟨.ddcb, 0x12, .byte⟩
  | .ddcb13_RL_mIXd_E => ⟨.ddcb, 0x13, .byte⟩
  | .ddcb14_RL_mIXd_H => ⟨.ddcb, 0x14, .byte⟩
  | .ddcb15_RL_mIXd_L => ⟨.ddcb, 0x15, .byte⟩
  | .ddcb16_RL_mIXd => ⟨.ddcb, 0x16, .byte⟩
  | .ddcb17_RL_mIXd_A => ⟨.ddcb, 0x17, .byte⟩
  | .ddcb18_RR_mIXd_B => ⟨.ddcb, 0x18, .byte⟩
  | .ddcb19_RR_mIXd_C => ⟨.ddcb, 0x19, .byte⟩
  | .ddcb1A_RR_mIXd_D => ⟨.ddcb, 0x1A, .byte⟩
  | .ddcb1B_RR_mIXd_E => ⟨.ddcb, 0x1B, .byte⟩
  | .ddcb1C_RR_mIXd_H => ⟨.ddcb, 0x1C, .byte⟩
  | .ddcb1D_RR_mIXd_L => ⟨.ddcb, 0x1D, .byte⟩
  | .ddcb1E_RR_mIXd => ⟨.ddcb, 0x1E, .byte⟩
  | .ddcb1F_RR_mIXd_A => ⟨.ddcb, 0x1F, .byte⟩
  | .ddcb20_SLA_mIXd_B => ⟨.ddcb, 0x20, .byte⟩
  | .ddcb21_SLA_mIXd_C => ⟨.ddcb, 0x21, .byte⟩
  | .ddcb22_SLA_mIXd_D => ⟨.ddcb, 0x22, .byte⟩
  | .ddcb23_SLA_mIXd_E => ⟨.ddcb, 0x23, .byte⟩
  | .ddcb24_SLA_mIXd_H => ⟨.ddcb, 0x24, .byte⟩
  | .ddcb25_SLA_mIXd_L => ⟨.ddcb, 0x25, .byte⟩
  | .ddcb26_SLA_mIXd => ⟨.ddcb, 0x26, .byte⟩
  | .ddcb27_SLA_mIXd_A => ⟨.ddcb, 0x27, .byte⟩
  | .ddcb28_SRA_mIXd_B => ⟨.ddcb, 0x28, .byte⟩
  | .ddcb29_SRA_mIXd_C => ⟨.ddcb, 0x29, .byte⟩
  | .ddcb2A_SRA_mIXd_D => ⟨.ddcb, 0x2A, .byte⟩
  | .ddcb2B_SRA_mIXd_E => ⟨.ddcb, 0x2B, .byte⟩
  | .ddcb2C_SRA_mIXd_H => ⟨.ddcb, 0x2C, .byte⟩
  | .ddcb2D_SRA_mIXd_L => ⟨.ddcb, 0x2D, .byte⟩
  | .ddcb2E_SRA_mIXd => ⟨.ddcb, 0x2E, .byte⟩
  | .ddcb2F_SRA_mIXd_A => ⟨.ddcb, 0x2F, .byte⟩
  | .ddcb30_SLL_mIXd_B => ⟨.ddcb, 0x30, .byte⟩
  | .ddcb31_SLL_mIXd_C => ⟨.ddcb, 0x31, .byte⟩
  | .ddcb32_SLL_mIXd_D => ⟨.ddcb, 0x32, .byte⟩
  | .ddcb33_SLL_mIXd_E => ⟨.ddcb, 0x33, .byte⟩
  | .ddcb34_SLL_mIXd_H => ⟨.ddcb, 0x34, .byte⟩
  | .ddcb35_SLL_mIXd_L => ⟨.ddcb, 0x35, .byte⟩
  | .ddcb36_SLL_mIXd => ⟨.ddcb, 0x36, .byte⟩
  | .ddcb37_SLL_mIXd_A => ⟨.ddcb, 0x37, .byte⟩
  | .ddcb38_SRL_mIXd_B => ⟨.ddcb, 0x38, .byte⟩
  | .ddcb39_SRL_mIXd_C => ⟨.ddcb, 0x39, .byte⟩
  | .ddcb3A_SRL_mIXd_D => ⟨.ddcb, 0x3A, .byte⟩
  | .ddcb3B_SRL_mIXd_E => ⟨.ddcb, 0x3B, .byte⟩
  | .ddcb3C_SRL_mIXd_H => ⟨.ddcb, 0x3C, .byte⟩
  | .ddcb3D_SRL_mIXd_L => ⟨.ddcb, 0x3D, .byte⟩
  | .ddcb3E_SRL_mIXd => ⟨.ddcb, 0x3E, .byte⟩
  | .ddcb3F_SRL_mIXd_A => ⟨.ddcb, 0x3F, .byte⟩
  | .ddcb40_BIT_0_mIXd => ⟨.ddcb, 0x40, .byte⟩
  | .ddcb41_BIT_0_mIXd => ⟨.ddcb, 0x41, .byte⟩
  | .ddcb42_BIT_0_mIXd => ⟨.ddcb, 0x42, .byte⟩
  | .ddcb43_BIT_0_mIXd => ⟨.ddcb, 0x43, .byte⟩
  | .ddcb44_BIT_0_mIXd => ⟨.ddcb, 0x44, .byte⟩
  | .ddcb45_BIT_0_mIXd => ⟨.ddcb, 0x45, .byte⟩
  | .ddcb46_BIT_0_mIXd => ⟨.ddcb, 0x46, .byte⟩
  | .ddcb47_BIT_0_mIXd => ⟨.ddcb, 0x47, .byte⟩
  | .ddcb48_BIT_1_mIXd => ⟨.ddcb, 0x48, .byte⟩
  | .ddcb49_BIT_1_mIXd => ⟨.ddcb, 0x49, .byte⟩
  | .ddcb4A_BIT_1_mIXd => ⟨.ddcb, 0x4A, .byte⟩
  | .ddcb4B_BIT_1_mIXd => ⟨.ddcb, 0x4B, .byte⟩
  | .ddcb4C_BIT_1_mIXd => ⟨.ddcb, 0x4C, .byte⟩
  | .ddcb4D_BIT_1_mIXd => ⟨.ddcb, 0x4D, .byte⟩
  | .ddcb4E_BIT_1_mIXd => ⟨.ddcb, 0x4E, .byte⟩
  | .ddcb4F_BIT_1_mIXd => ⟨.ddcb, 0x4F, .byte⟩
  | .ddcb50_BIT_2_mIXd => ⟨.ddcb, 0x50, .byte⟩
  | .ddcb51_BIT_2_mIXd => ⟨.ddcb, 0x51, .byte⟩
  | .ddcb52_BIT_2_mIXd => ⟨.ddcb, 0x52, .byte⟩
  | .ddcb53_BIT_2_mIXd => ⟨.ddcb, 0x53, .byte⟩
  | .ddcb54_BIT_2_mIXd => ⟨.ddcb, 0x54, .byte⟩
  | .ddcb55_BIT_2_mIXd => ⟨.ddcb, 0x55, .byte⟩
  | .ddcb56_BIT_2_mIXd => ⟨.ddcb, 0x56, .byte⟩
  | .ddcb57_BIT_2_mIXd => ⟨.ddcb, 0x57, .byte⟩
  | .ddcb58_BIT_3_mIXd => ⟨.ddcb, 0x58, .byte⟩
  | .ddcb59_BIT_3_mIXd => ⟨.ddcb, 0x59, .byte⟩
  | .ddcb5A_BIT_3_mIXd => ⟨.ddcb, 0x5A, .byte⟩
  | .ddcb5B_BIT_3_mIXd => ⟨.ddcb, 0x5B, .byte⟩
  | .ddcb5C_BIT_3_mIXd => ⟨.ddcb, 0x5C, .byte⟩
  | .ddcb5D_BIT_3_mIXd => ⟨.ddcb, 0x5D, .byte⟩
  | .ddcb5E_BIT_3_mIXd => ⟨.ddcb, 0x5E, .byte⟩
  | .ddcb5F_BIT_3_mIXd => ⟨.ddcb, 0x5F, .byte⟩
  | .ddcb60_BIT_4_mIXd => ⟨.ddcb, 0x60, .byte⟩
  | .ddcb61_BIT_4_mIXd => ⟨.ddcb, 0x61, .byte⟩
  | .ddcb62_BIT_4_mIXd => ⟨.ddcb, 0x62, .byte⟩
  | .ddcb63_BIT_4_mIXd => ⟨.ddcb, 0x63, .byte⟩
  | .ddcb64_BIT_4_mIXd => ⟨.ddcb, 0x64, .byte⟩
  | .ddcb65_BIT_4_mIXd => ⟨.ddcb, 0x65, .byte⟩
  | .ddcb66_BIT_4_mIXd => ⟨.ddcb, 0x66, .byte⟩
  | .ddcb67_BIT_4_mIXd => ⟨.ddcb, 0x67, .byte⟩
  | .ddcb68_BIT_5_mIXd => ⟨.ddcb, 0x68, .byte⟩
  | .ddcb69_BIT_5_mIXd => ⟨.ddcb, 0x69, .byte⟩
  | .ddcb6A_BIT_5_mIXd => ⟨.ddcb, 0x6A, .byte⟩
  | .ddcb6B_BIT_5_mIXd => ⟨.ddcb, 0x6B, .byte⟩
  | .ddcb6C_BIT_5_mIXd => ⟨.ddcb, 0x6C, .byte⟩
  | .ddcb6D_BIT_5_mIXd => ⟨.ddcb, 0x6D, .byte⟩
  | .ddcb6E_BIT_5_mIXd => ⟨.ddcb, 0x6E, .byte⟩
  | .ddcb6F_BIT_5_mIXd => ⟨.ddcb, 0x6F, .byte⟩
  | .ddcb70_BIT_6_mIXd => ⟨.ddcb, 0x70, .byte⟩
  | .ddcb71_BIT_6_mIXd => ⟨.ddcb, 0x71, .byte⟩
  | .ddcb72_BIT_6_mIXd => ⟨.ddcb, 0x72, .byte⟩
  | .ddcb73_BIT_6_mIXd => ⟨.ddcb, 0x73, .byte⟩
  | .ddcb74_BIT_6_mIXd => ⟨.ddcb, 0x74, .byte⟩
  | .ddcb75_BIT_6_mIXd => ⟨.ddcb, 0x75, .byte⟩
  | .ddcb76_BIT_6_mIXd => ⟨.ddcb, 0x76, .byte⟩
  | .ddcb77_BIT_6_mIXd => ⟨.ddcb, 0x77, .byte⟩
  | .ddcb78_BIT_7_mIXd => ⟨.ddcb, 0x78, .byte⟩
  | .ddcb79_BIT_7_mIXd => ⟨.ddcb, 0x79, .byte⟩
  | .ddcb7A_BIT_7_mIXd => ⟨.ddcb, 0x7A, .byte⟩
  | .ddcb7B_BIT_7_mIXd => ⟨.ddcb, 0x7B, .byte⟩
  | .ddcb7C_BIT_7_mIXd => ⟨.ddcb, 0x7C, .byte⟩
  | .ddcb7D_BIT_7_mIXd => ⟨.ddcb, 0x7D, .byte⟩
  | .ddcb7E_BIT_7_mIXd => ⟨.ddcb, 0x7E, .byte⟩
  | .ddcb7F_BIT_7_mIXd => ⟨.ddcb, 0x7F, .byte⟩
  | .ddcb80_RES_0_mIXd_B => ⟨.ddcb, 0x80, .byte⟩
  | .ddcb81_RES_0_mIXd_C => ⟨.ddcb, 0x81, .byte⟩
  | .ddcb82_RES_0_mIXd_D => ⟨.ddcb, 0x82, .byte⟩
  | .ddcb83_RES_0_mIXd_E => ⟨.ddcb, 0x83, .byte⟩
  | .ddcb84_RES_0_mIXd_H => ⟨.ddcb, 0x84, .byte⟩
  | .ddcb85_RES_0_mIXd_L => ⟨.ddcb, 0x85, .byte⟩
  | .ddcb86_RES_0_mIXd => ⟨.ddcb, 0x86, .byte⟩
  | .ddcb87_RES_0_mIXd_A => ⟨.ddcb, 0x87, .byte⟩
  | .ddcb88_RES_1_mIXd_B => ⟨.ddcb, 0x88, .byte⟩
  | .ddcb89_RES_1_mIXd_C => ⟨.ddcb, 0x89, .byte⟩
  | .ddcb8A_RES_1_mIXd_D => ⟨.ddcb, 0x8A, .byte⟩
  | .ddcb8B_RES_1_mIXd_E => ⟨.ddcb, 0x8B, .byte⟩
  | .ddcb8C_RES_1_mIXd_H => ⟨.ddcb, 0x8C, .byte⟩
  | .ddcb8D_RES_1_mIXd_L => ⟨.ddcb, 0x8D, .byte⟩
  | .ddcb8E_RES_1_mIXd => ⟨.ddcb, 0x8E, .byte⟩
  | .ddcb8F_RES_1_mIXd_A => ⟨.ddcb, 0x8F, .byte⟩
  | .ddcb90_RES_2_mIXd_B => ⟨.ddcb, 0x90, .byte⟩
  | .ddcb91_RES_2_mIXd_C => ⟨.ddcb, 0x91, .byte⟩
  | .ddcb92_RES_2_mIXd_D => ⟨.ddcb, 0x92, .byte⟩
  | .ddcb93_RES_2_mIXd_E => ⟨.ddcb, 0x93, .byte⟩
  | .ddcb94_RES_2_mIXd_H => ⟨.ddcb, 0x94, .byte⟩
  | .ddcb95_RES_2_mIXd_L => ⟨.ddcb, 0x95, .byte⟩
  | .ddcb96_RES_2_mIXd => ⟨.ddcb, 0x96, .byte⟩
  | .ddcb97_RES_2_mIXd_A => ⟨.ddcb, 0x97, .byte⟩
  | .ddcb98_RES_3_mIXd_B => ⟨.ddcb, 0x98, .byte⟩
  | .ddcb99_RES_3_mIXd_C => ⟨.ddcb, 0x99, .byte⟩
  | .ddcb9A_RES_3_mIXd_D => ⟨.ddcb, 0x9A, .byte⟩
  | .ddcb9B_RES_3_mIXd_E => ⟨.ddcb, 0x9B, .byte⟩
  | .ddcb9C_RES_3_mIXd_H => ⟨.ddcb, 0x9C, .byte⟩
  | .ddcb9D_RES_3_mIXd_L => ⟨.ddcb, 0x9D, .byte⟩
  | .ddcb9E_RES_3_mIXd => ⟨.ddcb, 0x9E, .byte⟩
  | .ddcb9F_RES_3_mIXd_A => ⟨.ddcb, 0x9F, .byte⟩
  | .ddcbA0_RES_4_mIXd_B => ⟨.ddcb, 0xA0, .byte⟩
  | .ddcbA1_RES_4_mIXd_C => ⟨.ddcb, 0xA1, .byte⟩
  | .ddcbA2_RES_4_mIXd_D => ⟨.ddcb, 0xA2, .byte⟩
  | .ddcbA3_RES_4_mIXd_E => ⟨.ddcb, 0xA3, .byte⟩
  | .ddcbA4_RES_4_mIXd_H => ⟨.ddcb, 0xA4, .byte⟩
  | .ddcbA5_RES_4_mIXd_L => ⟨.ddcb, 0xA5, .byte⟩
  | .ddcbA6_RES_4_mIXd => ⟨.ddcb, 0xA6, .byte⟩
  | .ddcbA7_RES_4_mIXd_A => ⟨.ddcb, 0xA7, .byte⟩
  | .ddcbA8_RES_5_mIXd_B => ⟨.ddcb, 0xA8, .byte⟩
  | .ddcbA9_RES_5_mIXd_C => ⟨.ddcb, 0xA9, .byte⟩
  | .ddcbAA_RES_5_mIXd_D => ⟨.ddcb, 0xAA, .byte⟩
  | .ddcbAB_RES_5_mIXd_E => ⟨.ddcb, 0xAB, .byte⟩
  | .ddcbAC_RES_5_mIXd_H => ⟨.ddcb, 0xAC, .byte⟩
  | .ddcbAD_RES_5_mIXd_L => ⟨.ddcb, 0xAD, .byte⟩
  | .ddcbAE_RES_5_mIXd => ⟨.ddcb, 0xAE, .byte⟩
  | .ddcbAF_RES_5_mIXd_A => ⟨.ddcb, 0xAF, .byte⟩
  | .ddcbB0_RES_6_mIXd_B => ⟨.ddcb, 0xB0, .byte⟩
  | .ddcbB1_RES_6_mIXd_C => ⟨.ddcb, 0xB1, .byte⟩
  | .ddcbB2_RES_6_mIXd_D => ⟨.ddcb, 0xB2, .byte⟩
  | .ddcbB3_RES_6_mIXd_E => ⟨.ddcb, 0xB3, .byte⟩
  | .ddcbB4_RES_6_mIXd_H => ⟨.ddcb, 0xB4, .byte⟩
  | .ddcbB5_RES_6_mIXd_L => ⟨.ddcb, 0xB5, .byte⟩
  | .ddcbB6_RES_6_mIXd => ⟨.ddcb, 0xB6, .byte⟩
  | .ddcbB7_RES_6_mIXd_A => ⟨.ddcb, 0xB7, .byte⟩
  | .ddcbB8_RES_7_mIXd_B => ⟨.ddcb, 0xB8, .byte⟩
  | .ddcbB9_RES_7_mIXd_C => ⟨.ddcb, 0xB9, .byte⟩
  | .ddcbBA_RES_7_mIXd_D => ⟨.ddcb, 0xBA, .byte⟩
  | .ddcbBB_RES_7_mIXd_E => ⟨.ddcb, 0xBB, .byte⟩
  | .ddcbBC_RES_7_mIXd_H => ⟨.ddcb, 0xBC, .byte⟩
  | .ddcbBD_RES_7_mIXd_L => ⟨.ddcb, 0xBD, .byte⟩
  | .ddcbBE_RES_7_mIXd => ⟨.ddcb, 0xBE, .byte⟩
  | .ddcbBF_RES_7_mIXd_A => ⟨.ddcb, 0xBF, .byte⟩
  | .ddcbC0_SET_0_mIXd_B => ⟨.ddcb, 0xC0, .byte⟩
  | .ddcbC1_SET_0_mIXd_C => ⟨.ddcb, 0xC1, .byte⟩
  | .ddcbC2_SET_0_mIXd_D => ⟨.ddcb, 0xC2, .byte⟩
  | .ddcbC3_SET_0_mIXd_E => ⟨.ddcb, 0xC3, .byte⟩
  | .ddcbC4_SET_0_mIXd_H => ⟨.ddcb, 0xC4, .byte⟩
  | .ddcbC5_SET_0_mIXd_L => ⟨.ddcb, 0xC5, .byte⟩
  | .ddcbC6_SET_0_mIXd => ⟨.ddcb, 0xC6, .byte⟩
  | .ddcbC7_SET_0_mIXd_A => ⟨.ddcb, 0xC7, .byte⟩
  | .ddcbC8_SET_1_mIXd_B => ⟨.ddcb, 0xC8, .byte⟩
  | .ddcbC9_SET_1_mIXd_C => ⟨.ddcb, 0xC9, .byte⟩
  | .ddcbCA_SET_1_mIXd_D => ⟨.ddcb, 0xCA, .byte⟩
  | .ddcbCB_SET_1_mIXd_E => ⟨.ddcb, 0xCB, .byte⟩
  | .ddcbCC_SET_1_mIXd_H => ⟨.ddcb, 0xCC, .byte⟩
  | .ddcbCD_SET_1_mIXd_L => ⟨.ddcb, 0xCD, .byte⟩
  | .ddcbCE_SET_1_mIXd => ⟨.ddcb, 0xCE, .byte⟩
  | .ddcbCF_SET_1_mIXd_A => ⟨.ddcb, 0xCF, .byte⟩
  | .ddcbD0_SET_2_mIXd_B => ⟨.ddcb, 0xD0, .byte⟩
  | .ddcbD1_SET_2_mIXd_C => ⟨.ddcb, 0xD1, .byte⟩
  | .ddcbD2_SET_2_mIXd_D => ⟨.ddcb, 0xD2, .byte⟩
  | .ddcbD3_SET_2_mIXd_E => ⟨.ddcb, 0xD3, .byte⟩
  | .ddcbD4_SET_2_mIXd_H => ⟨.ddcb, 0xD4, .byte⟩
  | .ddcbD5_SET_2_mIXd_L => ⟨.ddcb, 0xD5, .byte⟩
  | .ddcbD6_SET_2_mIXd => ⟨.ddcb, 0xD6, .byte⟩
  | .ddcbD7_SET_2_mIXd_A => ⟨.ddcb, 0xD7, .byte⟩
  | .ddcbD8_SET_3_mIXd_B => ⟨.ddcb, 0xD8, .byte⟩
  | .ddcbD9_SET_3_mIXd_C => ⟨.ddcb, 0xD9, .byte⟩
  | .ddcbDA_SET_3_mIXd_D => ⟨.ddcb, 0xDA, .byte⟩
  | .ddcbDB_SET_3_mIXd_E => ⟨.ddcb, 0xDB, .byte⟩
  | .ddcbDC_SET_3_mIXd_H => ⟨.ddcb, 0xDC, .byte⟩
  | .ddcbDD_SET_3_mIXd_L => ⟨.ddcb, 0xDD, .byte⟩
  | .ddcbDE_SET_3_mIXd => ⟨.ddcb, 0xDE, .byte⟩
  | .ddcbDF_SET_3_mIXd_A => ⟨.ddcb, 0xDF, .byte⟩
  | .ddcbE0_SET_4_mIXd_B => ⟨.ddcb, 0xE0, .byte⟩
  | .ddcbE1_SET_4_mIXd_C => ⟨.ddcb, 0xE1, .byte⟩
  | .ddcbE2_SET_4_mIXd_D => ⟨.ddcb, 0xE2, .byte⟩
  | .ddcbE3_SET_4_mIXd_E => ⟨.ddcb, 0xE3, .byte⟩
  | .ddcbE4_SET_4_mIXd_H => ⟨.ddcb, 0xE4, .byte⟩
  | .ddcbE5_SET_4_mIXd_L => ⟨.ddcb, 0xE5, .byte⟩
  | .ddcbE6_SET_4_mIXd => ⟨.ddcb, 0xE6, .byte⟩
  | .ddcbE7_SET_4_mIXd_A => ⟨.ddcb, 0xE7, .byte⟩
  | .ddcbE8_SET_5_mIXd_B => ⟨.ddcb, 0xE8, .byte⟩
  | .ddcbE9_SET_5_mIXd_C => ⟨.ddcb, 0xE9, .byte⟩
  | .ddcbEA_SET_5_mIXd_D => ⟨.ddcb, 0xEA, .byte⟩
  | .ddcbEB_SET_5_mIXd_E => ⟨.ddcb, 0xEB, .byte⟩
  | .ddcbEC_SET_5_mIXd_H => ⟨.ddcb, 0xEC, .byte⟩
  | .ddcbED_SET_5_mIXd_L => ⟨.ddcb, 0xED, .byte⟩
  | .ddcbEE_SET_5_mIXd => ⟨.ddcb, 0xEE, .byte⟩
  | .ddcbEF_SET_5_mIXd_A => ⟨.ddcb, 0xEF, .byte⟩
  | .ddcbF0_SET_6_mIXd_B => ⟨.ddcb, 0xF0, .byte⟩
  | .ddcbF1_SET_6_mIXd_C => ⟨.ddcb, 0xF1, .byte⟩
  | .ddcbF2_SET_6_mIXd_D => ⟨.ddcb, 0xF2, .byte⟩
  | .ddcbF3_SET_6_mIXd_E => ⟨.ddcb, 0xF3, .byte⟩
  | .ddcbF4_SET_6_mIXd_H => ⟨.ddcb, 0xF4, .byte⟩
  | .ddcbF5_SET_6_mIXd_L => ⟨.ddcb, 0xF5, .byte⟩
  | .ddcbF6_SET_6_mIXd => ⟨.ddcb, 0xF6, .byte⟩
  | .ddcbF7_SET_6_mIXd_A => ⟨.ddcb, 0xF7, .byte⟩
  | .ddcbF8_SET_7_mIXd_B => ⟨.ddcb, 0xF8, .byte⟩
  | .ddcbF9_SET_7_mIXd_C => ⟨.ddcb, 0xF9, .byte⟩
  | .ddcbFA_SET_7_mIXd_D => ⟨.ddcb, 0xFA, .byte⟩
  | .ddcbFB_SET_7_mIXd_E => ⟨.ddcb, 0xFB, .byte⟩
  | .ddcbFC_SET_7_mIXd_H => ⟨.ddcb, 0xFC, .byte⟩
  | .ddcbFD_SET_7_mIXd_L => ⟨.ddcb, 0xFD, .byte⟩
  | .ddcbFE_SET_7_mIXd => ⟨.ddcb, 0xFE, .byte⟩
  | .ddcbFF_SET_7_mIXd_A => ⟨.ddcb, 0xFF, .byte⟩
  | .fdcb00_RLC_mIYd_B => ⟨.fdcb, 0x00, .byte⟩
  | .fdcb01_RLC_mIYd_C => ⟨.fdcb, 0x01, .byte⟩
  | .fdcb02_RLC_mIYd_D => ⟨.fdcb, 0x02, .byte⟩
  | .fdcb03_RLC_mIYd_E => ⟨.fdcb, 0x03, .byte⟩
  | .fdcb04_RLC_mIYd_H => ⟨.fdcb, 0x04, .byte⟩
  | .fdcb05_RLC_mIYd_L => ⟨.fdcb, 0x05, .byte⟩
  | .fdcb06_RLC_mIYd => ⟨.fdcb, 0x06, .byte⟩
  | .fdcb07_RLC_mIYd_A => ⟨.fdcb, 0x07, .byte⟩
  | .fdcb08_RRC_mIYd_B => ⟨.fdcb, 0x08, .byte⟩
  | .fdcb09_RRC_mIYd_C => ⟨.fdcb, 0x09, .byte⟩
  | .fdcb0A_RRC_mIYd_D => ⟨.fdcb, 0x0A, .byte⟩
  | .fdcb0B_RRC_mIYd_E => ⟨.fdcb, 0x0B, .byte⟩
  | .fdcb0C_RRC_mIYd_H => ⟨.fdcb, 0x0C, .byte⟩
  | .fdcb0D_RRC_mIYd_L => ⟨.fdcb, 0x0D, .byte⟩
  | .fdcb0E_RRC_mIYd => ⟨.fdcb, 0x0E, .byte⟩
  | .fdcb0F_RRC_mIYd_A => ⟨.fdcb, 0x0F, .byte⟩
  | .fdcb10_RL_mIYd_B => ⟨.fdcb, 0x10, .byte⟩
  | .fdcb11_RL_mIYd_C => ⟨.fdcb, 0x11, .byte⟩
  | .fdcb12_RL_mIYd_D => ⟨.fdcb, 0x12, .byte⟩
  | .fdcb13_RL_mIYd_E => ⟨.fdcb, 0x13, .byte⟩
  | .fdcb14_RL_mIYd_H => ⟨.fdcb, 0x14, .byte⟩
  | .fdcb15_RL_mIYd_L => ⟨.fdcb, 0x15, .byte⟩
  | .fdcb16_RL_mIYd => ⟨.fdcb, 0x16, .byte⟩
  | .fdcb17_RL_mIYd_A => ⟨.fdcb, 0x17, .byte⟩
  | .fdcb18_RR_mIYd_B => ⟨.fdcb, 0x18, .byte⟩
  | .fdcb19_RR_mIYd_C => ⟨.fdcb, 0x19, .byte⟩
  | .fdcb1A_RR_mIYd_D => ⟨.fdcb, 0x1A, .byte⟩
  | .fdcb1B_RR_mIYd_E => ⟨.fdcb, 0x1B, .byte⟩
  | .fdcb1C_RR_mIYd_H => ⟨.fdcb, 0x1C, .byte⟩
  | .fdcb1D_RR_mIYd_L => ⟨.fdcb, 0x1D, .byte⟩
  | .fdcb1E_RR_mIYd => ⟨.fdcb, 0x1E, .byte⟩
  | .fdcb1F_RR_mIYd_A => ⟨.fdcb, 0x1F, .byte⟩
  | .fdcb20_SLA_mIYd_B => ⟨.fdcb, 0x20, .byte⟩
  | .fdcb21_SLA_mIYd_C => ⟨.fdcb, 0x21, .byte⟩
  | .fdcb22_SLA_mIYd_D => ⟨.fdcb, 0x22, .byte⟩
  | .fdcb23_SLA_mIYd_E => ⟨.fdcb, 0x23, .byte⟩
  | .fdcb24_SLA_mIYd_H => ⟨.fdcb, 0x24, .byte⟩
  | .fdcb25_SLA_mIYd_L => ⟨.fdcb, 0x25, .byte⟩
  | .fdcb26_SLA_mIYd => ⟨.fdcb, 0x26, .byte⟩
  | .fdcb27_SLA_mIYd_A => ⟨.fdcb, 0x27, .byte⟩
  | .fdcb28_SRA_mIYd_B => ⟨.fdcb, 0x28, .byte⟩
  | .fdcb29_SRA_mIYd_C => ⟨.fdcb, 0x29, .byte⟩
  | .fdcb2A_SRA_mIYd_D => ⟨.fdcb, 0x2A, .byte⟩
  | .fdcb2B_SRA_mIYd_E => ⟨.fdcb, 0x2B, .byte⟩
  | .fdcb2C_SRA_mIYd_H => ⟨.fdcb, 0x2C, .byte⟩
  | .fdcb2D_SRA_mIYd_L => ⟨.fdcb, 0x2D, .byte⟩
  | .fdcb2E_SRA_mIYd => ⟨.fdcb, 0x2E, .byte⟩
  | .fdcb2F_SRA_mIYd_A => ⟨.fdcb, 0x2F, .byte⟩
  | .fdcb30_SLL_mIYd_B => ⟨.fdcb, 0x30, .byte⟩
  | .fdcb31_SLL_mIYd_C => ⟨.fdcb, 0x31, .byte⟩
  | .fdcb32_SLL_mIYd_D => ⟨.fdcb, 0x32, .byte⟩
  | .fdcb33_SLL_mIYd_E => ⟨.fdcb, 0x33, .byte⟩
  | .fdcb34_SLL_mIYd_H => ⟨.fdcb, 0x34, .byte⟩
  | .fdcb35_SLL_mIYd_L => ⟨.fdcb, 0x35, .byte⟩
  | .fdcb36_SLL_mIYd => ⟨.fdcb, 0x36, .byte⟩
  | .fdcb37_SLL_mIYd_A => ⟨.fdcb, 0x37, .byte⟩
  | .fdcb38_SRL_mIYd_B => ⟨.fdcb, 0x38, .byte⟩
  | .fdcb39_SRL_mIYd_C => ⟨.fdcb, 0x39, .byte⟩
  | .fdcb3A_SRL_mIYd_D => ⟨.fdcb, 0x3A, .byte⟩
  | .fdcb3B_SRL_mIYd_E => ⟨.fdcb, 0x3B, .byte⟩
  | .fdcb3C_SRL_mIYd_H => ⟨.fdcb, 0x3C, .byte⟩
  | .fdcb3D_SRL_mIYd_L => ⟨.fdcb, 0x3D, .byte⟩
  | .fdcb3E_SRL_mIYd => ⟨.fdcb, 0x3E, .byte⟩
  | .fdcb3F_SRL_mIYd_A => ⟨.fdcb, 0x3F, .byte⟩
  | .fdcb40_BIT_0_mIYd => ⟨.fdcb, 0x40, .byte⟩
  | .fdcb41_BIT_0_mIYd => ⟨.fdcb, 0x41, .byte⟩
  | .fdcb42_BIT_0_mIYd => ⟨.fdcb, 0x42, .byte⟩
  | .fdcb43_BIT_0_mIYd => ⟨.fdcb, 0x43, .byte⟩
  | .fdcb44_BIT_0_mIYd => ⟨.fdcb, 0x44, .byte⟩
  | .fdcb45_BIT_0_mIYd => ⟨.fdcb, 0x45, .byte⟩
  | .fdcb46_BIT_0_mIYd => ⟨.fdcb, 0x46, .byte⟩
  | .fdcb47_BIT_0_mIYd => ⟨.fdcb, 0x47, .byte⟩
  | .fdcb48_BIT_1_mIYd => ⟨.fdcb, 0x48, .byte⟩
  | .fdcb49_BIT_1_mIYd => ⟨.fdcb, 0x49, .byte⟩
  | .fdcb4A_BIT_1_mIYd => ⟨.fdcb, 0x4A, .byte⟩
  | .fdcb4B_BIT_1_mIYd => ⟨.fdcb, 0x4B, .byte⟩
  | .fdcb4C_BIT_1_mIYd => ⟨.fdcb, 0x4C, .byte⟩
  | .fdcb4D_BIT_1_mIYd => ⟨.fdcb, 0x4D, .byte⟩
  | .fdcb4E_BIT_1_mIYd => ⟨.fdcb, 0x4E, .byte⟩
  | .fdcb4F_BIT_1_mIYd => ⟨.fdcb, 0x4F, .byte⟩
  | .fdcb50_BIT_2_mIYd => ⟨.fdcb, 0x50, .byte⟩
  | .fdcb51_BIT_2_mIYd => ⟨.fdcb, 0x51, .byte⟩
  | .fdcb52_BIT_2_mIYd => ⟨.fdcb, 0x52, .byte⟩
  | .fdcb53_BIT_2_mIYd => ⟨.fdcb, 0x53, .byte⟩
  | .fdcb54_BIT_2_mIYd => ⟨.fdcb, 0x54, .byte⟩
  | .fdcb55_BIT_2_mIYd => ⟨.fdcb, 0x55, .byte⟩
  | .fdcb56_BIT_2_mIYd => ⟨.fdcb, 0x56, .byte⟩
  | .fdcb57_BIT_2_mIYd => ⟨.fdcb, 0x57, .byte⟩
  | .fdcb58_BIT_3_mIYd => ⟨.fdcb, 0x58, .byte⟩
  | .fdcb59_BIT_3_mIYd => ⟨.fdcb, 0x59, .byte⟩
  | .fdcb5A_BIT_3_mIYd => ⟨.fdcb, 0x5A, .byte⟩
  | .fdcb5B_BIT_3_mIYd => ⟨.fdcb, 0x5B, .byte⟩
  | .fdcb5C_BIT_3_mIYd => ⟨.fdcb, 0x5C, .byte⟩
  | .fdcb5D_BIT_3_mIYd => ⟨.fdcb, 0x5D, .byte⟩
  | .fdcb5E_BIT_3_mIYd => ⟨.fdcb, 0x5E, .byte⟩
  | .fdcb5F_BIT_3_mIYd => ⟨.fdcb, 0x5F, .byte⟩
  | .fdcb60_BIT_4_mIYd => ⟨.fdcb, 0x60, .byte⟩
  | .fdcb61_BIT_4_mIYd => ⟨.fdcb, 0x61, .byte⟩
  | .fdcb62_BIT_4_mIYd => ⟨.fdcb, 0x62, .byte⟩
  | .fdcb63_BIT_4_mIYd => ⟨.fdcb, 0x63, .byte⟩
  | .fdcb64_BIT_4_mIYd => ⟨.fdcb, 0x64, .byte⟩
  | .fdcb65_BIT_4_mIYd => ⟨.fdcb, 0x65, .byte⟩
  | .fdcb66_BIT_4_mIYd => ⟨.fdcb, 0x66, .byte⟩
  | .fdcb67_BIT_4_mIYd => ⟨.fdcb, 0x67, .byte⟩
  | .fdcb68_BIT_5_mIYd => ⟨.fdcb, 0x68, .byte⟩
  | .fdcb69_BIT_5_mIYd => ⟨.fdcb, 0x69, .byte⟩
  | .fdcb6A_BIT_5_mIYd => ⟨.fdcb, 0x6A, .byte⟩
  | .fdcb6B_BIT_5_mIYd => ⟨.fdcb, 0x6B, .byte⟩
  | .fdcb6C_BIT_5_mIYd => ⟨.fdcb, 0x6C, .byte⟩
  | .fdcb6D_BIT_5_mIYd => ⟨.fdcb, 0x6D, .byte⟩
  | .fdcb6E_BIT_5_mIYd => ⟨.fdcb, 0x6E, .byte⟩
  | .fdcb6F_BIT_5_mIYd => ⟨.fdcb, 0x6F, .byte⟩
  | .fdcb70_BIT_6_mIYd => ⟨.fdcb, 0x70, .byte⟩
  | .fdcb71_BIT_6_mIYd => ⟨.fdcb, 0x71, .byte⟩
  | .fdcb72_BIT_6_mIYd => ⟨.fdcb, 0x72, .byte⟩
  | .fdcb73_BIT_6_mIYd => ⟨.fdcb, 0x73, .byte⟩
  | .fdcb74_BIT_6_mIYd => ⟨.fdcb, 0x74, .byte⟩
  | .fdcb75_BIT_6_mIYd => ⟨.fdcb, 0x75, .byte⟩
  | .fdcb76_BIT_6_mIYd => ⟨.fdcb, 0x76, .byte⟩
  | .fdcb77_BIT_6_mIYd => ⟨.fdcb, 0x77, .byte⟩
  | .fdcb78_BIT_7_mIYd => ⟨.fdcb, 0x78, .byte⟩
  | .fdcb79_BIT_7_mIYd => ⟨.fdcb, 0x79, .byte⟩
  | .fdcb7A_BIT_7_mIYd => ⟨.fdcb, 0x7A, .byte⟩
  | .fdcb7B_BIT_7_mIYd => ⟨.fdcb, 0x7B, .byte⟩
  | .fdcb7C_BIT_7_mIYd => ⟨.fdcb, 0x7C, .byte⟩
  | .fdcb7D_BIT_7_mIYd => ⟨.fdcb, 0x7D, .byte⟩
  | .fdcb7E_BIT_7_mIYd => ⟨.fdcb, 0x7E, .byte⟩
  | .fdcb7F_BIT_7_mIYd => ⟨.fdcb, 0x7F, .byte⟩
  | .fdcb80_RES_0_mIYd_B => ⟨.fdcb, 0x80, .byte⟩
  | .fdcb81_RES_0_mIYd_C => ⟨.fdcb, 0x81, .byte⟩
  | .fdcb82_RES_0_mIYd_D => ⟨.fdcb, 0x82, .byte⟩
  | .fdcb83_RES_0_mIYd_E => ⟨.fdcb, 0x83, .byte⟩
  | .fdcb84_RES_0_mIYd_H => ⟨.fdcb, 0x84, .byte⟩
  | .fdcb85_RES_0_mIYd_L => ⟨.fdcb, 0x85, .byte⟩
  | .fdcb86_RES_0_mIYd => ⟨.fdcb, 0x86, .byte⟩
  | .fdcb87_RES_0_mIYd_A => ⟨.fdcb, 0x87, .byte⟩
  | .fdcb88_RES_1_mIYd_B => ⟨.fdcb, 0x88, .byte⟩
  | .fdcb89_RES_1_mIYd_C => ⟨.fdcb, 0x89, .byte⟩
  | .fdcb8A_RES_1_mIYd_D => ⟨.fdcb, 0x8A, .byte⟩
  | .fdcb8B_RES_1_mIYd_E => ⟨.fdcb, 0x8B, .byte⟩
  | .fdcb8C_RES_1_mIYd_H => ⟨.fdcb, 0x8C, .byte⟩
  | .fdcb8D_RES_1_mIYd_L => ⟨.fdcb, 0x8D, .byte⟩
  | .fdcb8E_RES_1_mIYd => ⟨.fdcb, 0x8E, .byte⟩
  | .fdcb8F_RES_1_mIYd_A => ⟨.fdcb, 0x8F, .byte⟩
  | .fdcb90_RES_2_mIYd_B => ⟨.fdcb, 0x90, .byte⟩
  | .fdcb91_RES_2_mIYd_C => ⟨.fdcb, 0x91, .byte⟩
  | .fdcb92_RES_2_mIYd_D => ⟨.fdcb, 0x92, .byte⟩
  | .fdcb93_RES_2_mIYd_E => ⟨.fdcb, 0x93, .byte⟩
  | .fdcb94_RES_2_mIYd_H => ⟨.fdcb, 0x94, .byte⟩
  | .fdcb95_RES_2_mIYd_L => ⟨.fdcb, 0x95, .byte⟩
  | .fdcb96_RES_2_mIYd => ⟨.fdcb, 0x96, .byte⟩
  | .fdcb97_RES_2_mIYd_A => ⟨.fdcb, 0x97, .byte⟩
  | .fdcb98_RES_3_mIYd_B => ⟨.fdcb, 0x98, .byte⟩
  | .fdcb99_RES_3_mIYd_C => ⟨.fdcb, 0x99, .byte⟩
  | .fdcb9A_RES_3_mIYd_D => ⟨.fdcb, 0x9A, .byte⟩
  | .fdcb9B_RES_3_mIYd_E => ⟨.fdcb, 0x9B, .byte⟩
  | .fdcb9C_RES_3_mIYd_H => ⟨.fdcb, 0x9C, .byte⟩
  | .fdcb9D_RES_3_mIYd_L => ⟨.fdcb, 0x9D, .byte⟩
  | .fdcb9E_RES_3_mIYd => ⟨.fdcb, 0x9E, .byte⟩
  | .fdcb9F_RES_3_mIYd_A => ⟨.fdcb, 0x9F, .byte⟩
  | .fdcbA0_RES_4_mIYd_B => ⟨.fdcb, 0xA0, .byte⟩
  | .fdcbA1_RES_4_mIYd_C => ⟨.fdcb, 0xA1, .byte⟩
  | .fdcbA2_RES_4_mIYd_D => ⟨.fdcb, 0xA2, .byte⟩
  | .fdcbA3_RES_4_mIYd_E => ⟨.fdcb, 0xA3, .byte⟩
  | .fdcbA4_RES_4_mIYd_H => ⟨.fdcb, 0xA4, .byte⟩
  | .fdcbA5_RES_4_mIYd_L => ⟨.fdcb, 0xA5, .byte⟩
  | .fdcbA6_RES_4_mIYd => ⟨.fdcb, 0xA6, .byte⟩
  | .fdcbA7_RES_4_mIYd_A => ⟨.fdcb, 0xA7, .byte⟩
  | .fdcbA8_RES_5_mIYd_B => ⟨.fdcb, 0xA8, .byte⟩
  | .fdcbA9_RES_5_mIYd_C => ⟨.fdcb, 0xA9, .byte⟩
  | .fdcbAA_RES_5_mIYd_D => ⟨.fdcb, 0xAA, .byte⟩
  | .fdcbAB_RES_5_mIYd_E => ⟨.fdcb, 0xAB, .byte⟩
  | .fdcbAC_RES_5_mIYd_H => ⟨.fdcb, 0xAC, .byte⟩
  | .fdcbAD_RES_5_mIYd_L => ⟨.fdcb, 0xAD, .byte⟩
  | .fdcbAE_RES_5_mIYd => ⟨.fdcb, 0xAE, .byte⟩
  | .fdcbAF_RES_5_mIYd_A => ⟨.fdcb, 0xAF, .byte⟩
  | .fdcbB0_RES_6_mIYd_B => ⟨.fdcb, 0xB0, .byte⟩
  | .fdcbB1_RES_6_mIYd_C => ⟨.fdcb, 0xB1, .byte⟩
  | .fdcbB2_RES_6_mIYd_D => ⟨.fdcb, 0xB2, .byte⟩
  | .fdcbB3_RES_6_mIYd_E => ⟨.fdcb, 0xB3, .byte⟩
  | .fdcbB4_RES_6_mIYd_H => ⟨.fdcb, 0xB4, .byte⟩
  | .fdcbB5_RES_6_mIYd_L => ⟨.fdcb, 0xB5, .byte⟩
  | .fdcbB6_RES_6_mIYd => ⟨.fdcb, 0xB6, .byte⟩
  | .fdcbB7_RES_6_mIYd_A => ⟨.fdcb, 0xB7, .byte⟩
  | .fdcbB8_RES_7_mIYd_B => ⟨.fdcb, 0xB8, .byte⟩
  | .fdcbB9_RES_7_mIYd_C => ⟨.fdcb, 0xB9, .byte⟩
  | .fdcbBA_RES_7_mIYd_D => ⟨.fdcb, 0xBA, .byte⟩
  | .fdcbBB_RES_7_mIYd_E => ⟨.fdcb, 0xBB, .byte⟩
  | .fdcbBC_RES_7_mIYd_H => ⟨.fdcb, 0xBC, .byte⟩
  | .fdcbBD_RES_7_mIYd_L => ⟨.fdcb, 0xBD, .byte⟩
  | .fdcbBE_RES_7_mIYd => ⟨.fdcb, 0xBE, .byte⟩
  | .fdcbBF_RES_7_mIYd_A => ⟨.fdcb, 0xBF, .byte⟩
  | .fdcbC0_SET_0_mIYd_B => ⟨.fdcb, 0xC0, .byte⟩
  | .fdcbC1_SET_0_mIYd_C => ⟨.fdcb, 0xC1, .byte⟩
  | .fdcbC2_SET_0_mIYd_D => ⟨.fdcb, 0xC2, .byte⟩
  | .fdcbC3_SET_0_mIYd_E => ⟨.fdcb, 0xC3, .byte⟩
  | .fdcbC4_SET_0_mIYd_H => ⟨.fdcb, 0xC4, .byte⟩
  | .fdcbC5_SET_0_mIYd_L => ⟨.fdcb, 0xC5, .byte⟩
  | .fdcbC6_SET_0_mIYd => ⟨.fdcb, 0xC6, .byte⟩
  | .fdcbC7_SET_0_mIYd_A => ⟨.fdcb, 0xC7, .byte⟩
  | .fdcbC8_SET_1_mIYd_B => ⟨.fdcb, 0xC8, .byte⟩
  | .fdcbC9_SET_1_mIYd_C => ⟨.fdcb, 0xC9, .byte⟩
  | .fdcbCA_SET_1_mIYd_D => ⟨.fdcb, 0xCA, .byte⟩
  | .fdcbCB_SET_1_mIYd_E => ⟨.fdcb, 0xCB, .byte⟩
  | .fdcbCC_SET_1_mIYd_H => ⟨.fdcb, 0xCC, .byte⟩
  | .fdcbCD_SET_1_mIYd_L => ⟨.fdcb, 0xCD, .byte⟩
  | .fdcbCE_SET_1_mIYd => ⟨.fdcb, 0xCE, .byte⟩
  | .fdcbCF_SET_1_mIYd_A => ⟨.fdcb, 0xCF, .byte⟩
  | .fdcbD0_SET_2_mIYd_B => ⟨.fdcb, 0xD0, .byte⟩
  | .fdcbD1_SET_2_mIYd_C => ⟨.fdcb, 0xD1, .byte⟩
  | .fdcbD2_SET_2_mIYd_D => ⟨.fdcb, 0xD2, .byte⟩
  | .fdcbD3_SET_2_mIYd_E => ⟨.fdcb, 0xD3, .byte⟩
  | .fdcbD4_SET_2_mIYd_H => ⟨.fdcb, 0xD4, .byte⟩
  | .fdcbD5_SET_2_mIYd_L => ⟨.fdcb, 0xD5, .byte⟩
  | .fdcbD6_SET_2_mIYd => ⟨.fdcb, 0xD6, .byte⟩
  | .fdcbD7_SET_2_mIYd_A => ⟨.fdcb, 0xD7, .byte⟩
  | .fdcbD8_SET_3_mIYd_B => ⟨.fdcb, 0xD8, .byte⟩
  | .fdcbD9_SET_3_mIYd_C => ⟨.fdcb, 0xD9, .byte⟩
  | .fdcbDA_SET_3_mIYd_D => ⟨.fdcb, 0xDA, .byte⟩
  | .fdcbDB_SET_3_mIYd_E => ⟨.fdcb, 0xDB, .byte⟩
  | .fdcbDC_SET_3_mIYd_H => ⟨.fdcb, 0xDC, .byte⟩
  | .fdcbDD_SET_3_mIYd_L => ⟨.fdcb, 0xDD, .byte⟩
  | .fdcbDE_SET_3_mIYd => ⟨.fdcb, 0xDE, .byte⟩
  | .fdcbDF_SET_3_mIYd_A => ⟨.fdcb, 0xDF, .byte⟩
  | .fdcbE0_SET_4_mIYd_B => ⟨.fdcb, 0xE0, .byte⟩
  | .fdcbE1_SET_4_mIYd_C => ⟨.fdcb, 0xE1, .byte⟩
  | .fdcbE2_SET_4_mIYd_D => ⟨.fdcb, 0xE2, .byte⟩
  | .fdcbE3_SET_4_mIYd_E => ⟨.fdcb, 0xE3, .byte⟩
  | .fdcbE4_SET_4_mIYd_H => ⟨.fdcb, 0xE4, .byte⟩
  | .fdcbE5_SET_4_mIYd_L => ⟨.fdcb, 0xE5, .byte⟩
  | .fdcbE6_SET_4_mIYd => ⟨.fdcb, 0xE6, .byte⟩
  | .fdcbE7_SET_4_mIYd_A => ⟨.fdcb, 0xE7, .byte⟩
  | .fdcbE8_SET_5_mIYd_B => ⟨.fdcb, 0xE8, .byte⟩
  | .fdcbE9_SET_5_mIYd_C => ⟨.fdcb, 0xE9, .byte⟩
  | .fdcbEA_SET_5_mIYd_D => ⟨.fdcb, 0xEA, .byte⟩
  | .fdcbEB_SET_5_mIYd_E => ⟨.fdcb, 0xEB, .byte⟩
  | .fdcbEC_SET_5_mIYd_H => ⟨.fdcb, 0xEC, .byte⟩
  | .fdcbED_SET_5_mIYd_L => ⟨.fdcb, 0xED, .byte⟩
  | .fdcbEE_SET_5_mIYd => ⟨.fdcb, 0xEE, .byte⟩
  | .fdcbEF_SET_5_mIYd_A => ⟨.fdcb, 0xEF, .byte⟩
  | .fdcbF0_SET_6_mIYd_B => ⟨.fdcb, 0xF0, .byte⟩
  | .fdcbF1_SET_6_mIYd_C => ⟨.fdcb, 0xF1, .byte⟩
  | .fdcbF2_SET_6_mIYd_D => ⟨.fdcb, 0xF2, .byte⟩
  | .fdcbF3_SET_6_mIYd_E => ⟨.fdcb, 0xF3, .byte⟩
  | .fdcbF4_SET_6_mIYd_H => ⟨.fdcb, 0xF4, .byte⟩
  | .fdcbF5_SET_6_mIYd_L => ⟨.fdcb, 0xF5, .byte⟩
  | .fdcbF6_SET_6_mIYd => ⟨.fdcb, 0xF6, .byte⟩
  | .fdcbF7_SET_6_mIYd_A => ⟨.fdcb, 0xF7, .byte⟩
  | .fdcbF8_SET_7_mIYd_B => ⟨.fdcb, 0xF8, .byte⟩
  | .fdcbF9_SET_7_mIYd_C => ⟨.fdcb, 0xF9, .byte⟩
  | .fdcbFA_SET_7_mIYd_D => ⟨.fdcb, 0xFA, .byte⟩
  | .fdcbFB_SET_7_mIYd_E => ⟨.fdcb, 0xFB, .byte⟩
  | .fdcbFC_SET_7_mIYd_H => ⟨.fdcb, 0xFC, .byte⟩
  | .fdcbFD_SET_7_mIYd_L => ⟨.fdcb, 0xFD, .byte⟩
  | .fdcbFE_SET_7_mIYd => ⟨.fdcb, 0xFE, .byte⟩
  | .fdcbFF_SET_7_mIYd_A => ⟨.fdcb, 0xFF, .byte⟩

/-- The table a prefix byte leads to; another byte is no prefix (30_encoding.md R84). -/
def prefixTable (b : Byte) : Option TableId :=
  if b = 0xCB then some .cb
  else if b = 0xDD then some .dd
  else if b = 0xED then some .ed
  else if b = 0xFD then some .fd
  else none

/-- The table a prefix marker leads to (30_encoding.md R84): only primary entries are prefix markers. -/
def Instr.markerTable (i : Instr) : Option TableId :=
  if i.entry.table = .primary then prefixTable i.entry.index else none

/-- The third-level table a displaced marker leads to (30_encoding.md R85): index CB of the DD and FD tables. -/
def Instr.displacedTable (i : Instr) : Option TableId :=
  if i.entry.index = 0xCB then
    match i.entry.table with
    | .dd => some .ddcb
    | .fd => some .fdcb
    | .primary | .cb | .ed | .ddcb | .fdcb => none
  else none

/-- Whether a constructor is a dispatch row and not an instruction (30_encoding.md R102). -/
def Instr.isMarker (i : Instr) : Bool := i.markerTable.isSome || i.displacedTable.isSome

/-- The descriptor length `L` an operand shape goes with: the index byte and the operand bytes (30_encoding.md R83,
R87). -/
def OperandForm.length : OperandForm → Nat
  | .none => 1
  | .byte => 2
  | .word => 3

/-- The prefix bytes before the index byte of a table (00_scope.md R13; 40_decoder.md R133, R135, R136). -/
def TableId.prefixBytes : TableId → Nat
  | .primary => 0
  | .cb | .ed | .dd | .fd => 1
  | .ddcb | .fdcb => 2

/-- The bytes a whole instruction occupies (40_decoder.md R137; 30_encoding.md R80). -/
def Instr.totalLength (i : Instr) : Nat := i.entry.form.length + i.entry.table.prefixBytes

/-- The bytes of an entry with the given operand bytes, in stream order: the formats P1-P3, X1-X3 and XD of
30_encoding.md R81. -/
def encodeEntry (e : Entry) (operand : List Byte) : List Byte :=
  match e.table with
  | .primary => [e.index] ++ operand
  | .cb => [0xCB, e.index] ++ operand
  | .ed => [0xED, e.index] ++ operand
  | .dd => [0xDD, e.index] ++ operand
  | .fd => [0xFD, e.index] ++ operand
  | .ddcb => [0xDD, 0xCB] ++ operand ++ [e.index]
  | .fdcb => [0xFD, 0xCB] ++ operand ++ [e.index]

/-- The bytes of an instruction with its operand, in stream order. -/
def encode (i : Instr) (o : Operand) : List Byte := encodeEntry i.entry (operandBytes o)

/-- Primary table, indices 00-0F: R1000-R1015. -/
def primaryRows0 : List Instr := [
  .p00_NOP, .p01_LD_BC_nn, .p02_LD_mBC_A, .p03_INC_BC,
  .p04_INC_B, .p05_DEC_B, .p06_LD_B_n, .p07_RLCA,
  .p08_EX_AF_AFx, .p09_ADD_HL_BC, .p0A_LD_A_mBC, .p0B_DEC_BC,
  .p0C_INC_C, .p0D_DEC_C, .p0E_LD_C_n, .p0F_RRCA]

/-- Primary table, indices 10-1F: R1016-R1031. -/
def primaryRows1 : List Instr := [
  .p10_DJNZ_e, .p11_LD_DE_nn, .p12_LD_mDE_A, .p13_INC_DE,
  .p14_INC_D, .p15_DEC_D, .p16_LD_D_n, .p17_RLA,
  .p18_JR_e, .p19_ADD_HL_DE, .p1A_LD_A_mDE, .p1B_DEC_DE,
  .p1C_INC_E, .p1D_DEC_E, .p1E_LD_E_n, .p1F_RRA]

/-- Primary table, indices 20-2F: R1032-R1047. -/
def primaryRows2 : List Instr := [
  .p20_JR_NZ_e, .p21_LD_HL_nn, .p22_LD_mnn_HL, .p23_INC_HL,
  .p24_INC_H, .p25_DEC_H, .p26_LD_H_n, .p27_DAA,
  .p28_JR_Z_e, .p29_ADD_HL_HL, .p2A_LD_HL_mnn, .p2B_DEC_HL,
  .p2C_INC_L, .p2D_DEC_L, .p2E_LD_L_n, .p2F_CPL]

/-- Primary table, indices 30-3F: R1048-R1063. -/
def primaryRows3 : List Instr := [
  .p30_JR_NC_e, .p31_LD_SP_nn, .p32_LD_mnn_A, .p33_INC_SP,
  .p34_INC_mHL, .p35_DEC_mHL, .p36_LD_mHL_n, .p37_SCF,
  .p38_JR_C_e, .p39_ADD_HL_SP, .p3A_LD_A_mnn, .p3B_DEC_SP,
  .p3C_INC_A, .p3D_DEC_A, .p3E_LD_A_n, .p3F_CCF]

/-- Primary table, indices 40-4F: R1064-R1079. -/
def primaryRows4 : List Instr := [
  .p40_LD_B_B, .p41_LD_B_C, .p42_LD_B_D, .p43_LD_B_E,
  .p44_LD_B_H, .p45_LD_B_L, .p46_LD_B_mHL, .p47_LD_B_A,
  .p48_LD_C_B, .p49_LD_C_C, .p4A_LD_C_D, .p4B_LD_C_E,
  .p4C_LD_C_H, .p4D_LD_C_L, .p4E_LD_C_mHL, .p4F_LD_C_A]

/-- Primary table, indices 50-5F: R1080-R1095. -/
def primaryRows5 : List Instr := [
  .p50_LD_D_B, .p51_LD_D_C, .p52_LD_D_D, .p53_LD_D_E,
  .p54_LD_D_H, .p55_LD_D_L, .p56_LD_D_mHL, .p57_LD_D_A,
  .p58_LD_E_B, .p59_LD_E_C, .p5A_LD_E_D, .p5B_LD_E_E,
  .p5C_LD_E_H, .p5D_LD_E_L, .p5E_LD_E_mHL, .p5F_LD_E_A]

/-- Primary table, indices 60-6F: R1096-R1111. -/
def primaryRows6 : List Instr := [
  .p60_LD_H_B, .p61_LD_H_C, .p62_LD_H_D, .p63_LD_H_E,
  .p64_LD_H_H, .p65_LD_H_L, .p66_LD_H_mHL, .p67_LD_H_A,
  .p68_LD_L_B, .p69_LD_L_C, .p6A_LD_L_D, .p6B_LD_L_E,
  .p6C_LD_L_H, .p6D_LD_L_L, .p6E_LD_L_mHL, .p6F_LD_L_A]

/-- Primary table, indices 70-7F: R1112-R1127. -/
def primaryRows7 : List Instr := [
  .p70_LD_mHL_B, .p71_LD_mHL_C, .p72_LD_mHL_D, .p73_LD_mHL_E,
  .p74_LD_mHL_H, .p75_LD_mHL_L, .p76_HALT, .p77_LD_mHL_A,
  .p78_LD_A_B, .p79_LD_A_C, .p7A_LD_A_D, .p7B_LD_A_E,
  .p7C_LD_A_H, .p7D_LD_A_L, .p7E_LD_A_mHL, .p7F_LD_A_A]

/-- Primary table, indices 80-8F: R1128-R1143. -/
def primaryRows8 : List Instr := [
  .p80_ADD_A_B, .p81_ADD_A_C, .p82_ADD_A_D, .p83_ADD_A_E,
  .p84_ADD_A_H, .p85_ADD_A_L, .p86_ADD_A_mHL, .p87_ADD_A_A,
  .p88_ADC_A_B, .p89_ADC_A_C, .p8A_ADC_A_D, .p8B_ADC_A_E,
  .p8C_ADC_A_H, .p8D_ADC_A_L, .p8E_ADC_A_mHL, .p8F_ADC_A_A]

/-- Primary table, indices 90-9F: R1144-R1159. -/
def primaryRows9 : List Instr := [
  .p90_SUB_B, .p91_SUB_C, .p92_SUB_D, .p93_SUB_E,
  .p94_SUB_H, .p95_SUB_L, .p96_SUB_mHL, .p97_SUB_A,
  .p98_SBC_A_B, .p99_SBC_A_C, .p9A_SBC_A_D, .p9B_SBC_A_E,
  .p9C_SBC_A_H, .p9D_SBC_A_L, .p9E_SBC_A_mHL, .p9F_SBC_A_A]

/-- Primary table, indices A0-AF: R1160-R1175. -/
def primaryRowsA : List Instr := [
  .pA0_AND_B, .pA1_AND_C, .pA2_AND_D, .pA3_AND_E,
  .pA4_AND_H, .pA5_AND_L, .pA6_AND_mHL, .pA7_AND_A,
  .pA8_XOR_B, .pA9_XOR_C, .pAA_XOR_D, .pAB_XOR_E,
  .pAC_XOR_H, .pAD_XOR_L, .pAE_XOR_mHL, .pAF_XOR_A]

/-- Primary table, indices B0-BF: R1176-R1191. -/
def primaryRowsB : List Instr := [
  .pB0_OR_B, .pB1_OR_C, .pB2_OR_D, .pB3_OR_E,
  .pB4_OR_H, .pB5_OR_L, .pB6_OR_mHL, .pB7_OR_A,
  .pB8_CP_B, .pB9_CP_C, .pBA_CP_D, .pBB_CP_E,
  .pBC_CP_H, .pBD_CP_L, .pBE_CP_mHL, .pBF_CP_A]

/-- Primary table, indices C0-CF: R1192-R1207. -/
def primaryRowsC : List Instr := [
  .pC0_RET_NZ, .pC1_POP_BC, .pC2_JP_NZ_nn, .pC3_JP_nn,
  .pC4_CALL_NZ_nn, .pC5_PUSH_BC, .pC6_ADD_A_n, .pC7_RST_00H,
  .pC8_RET_Z, .pC9_RET, .pCA_JP_Z_nn, .pCB_PREFIX_CB,
  .pCC_CALL_Z_nn, .pCD_CALL_nn, .pCE_ADC_A_n, .pCF_RST_08H]

/-- Primary table, indices D0-DF: R1208-R1223. -/
def primaryRowsD : List Instr := [
  .pD0_RET_NC, .pD1_POP_DE, .pD2_JP_NC_nn, .pD3_OUT_mn_A,
  .pD4_CALL_NC_nn, .pD5_PUSH_DE, .pD6_SUB_n, .pD7_RST_10H,
  .pD8_RET_C, .pD9_EXX, .pDA_JP_C_nn, .pDB_IN_A_mn,
  .pDC_CALL_C_nn, .pDD_PREFIX_DD, .pDE_SBC_A_n, .pDF_RST_18H]

/-- Primary table, indices E0-EF: R1224-R1239. -/
def primaryRowsE : List Instr := [
  .pE0_RET_PO, .pE1_POP_HL, .pE2_JP_PO_nn, .pE3_EX_mSP_HL,
  .pE4_CALL_PO_nn, .pE5_PUSH_HL, .pE6_AND_n, .pE7_RST_20H,
  .pE8_RET_PE, .pE9_JP_mHL, .pEA_JP_PE_nn, .pEB_EX_DE_HL,
  .pEC_CALL_PE_nn, .pED_PREFIX_ED, .pEE_XOR_n, .pEF_RST_28H]

/-- Primary table, indices F0-FF: R1240-R1255. -/
def primaryRowsF : List Instr := [
  .pF0_RET_P, .pF1_POP_AF, .pF2_JP_P_nn, .pF3_DI,
  .pF4_CALL_P_nn, .pF5_PUSH_AF, .pF6_OR_n, .pF7_RST_30H,
  .pF8_RET_M, .pF9_LD_SP_HL, .pFA_JP_M_nn, .pFB_EI,
  .pFC_CALL_M_nn, .pFD_PREFIX_FD, .pFE_CP_n, .pFF_RST_38H]

/-- The Primary table, one list for each high digit of the index. -/
def primaryRows : List (List Instr) := [
  primaryRows0, primaryRows1, primaryRows2, primaryRows3, primaryRows4, primaryRows5, primaryRows6, primaryRows7,
  primaryRows8, primaryRows9, primaryRowsA, primaryRowsB, primaryRowsC, primaryRowsD, primaryRowsE, primaryRowsF]

/-- CB table, indices 00-0F: R2000-R2015. -/
def cbRows0 : List Instr := [
  .cb00_RLC_B, .cb01_RLC_C, .cb02_RLC_D, .cb03_RLC_E,
  .cb04_RLC_H, .cb05_RLC_L, .cb06_RLC_mHL, .cb07_RLC_A,
  .cb08_RRC_B, .cb09_RRC_C, .cb0A_RRC_D, .cb0B_RRC_E,
  .cb0C_RRC_H, .cb0D_RRC_L, .cb0E_RRC_mHL, .cb0F_RRC_A]

/-- CB table, indices 10-1F: R2016-R2031. -/
def cbRows1 : List Instr := [
  .cb10_RL_B, .cb11_RL_C, .cb12_RL_D, .cb13_RL_E,
  .cb14_RL_H, .cb15_RL_L, .cb16_RL_mHL, .cb17_RL_A,
  .cb18_RR_B, .cb19_RR_C, .cb1A_RR_D, .cb1B_RR_E,
  .cb1C_RR_H, .cb1D_RR_L, .cb1E_RR_mHL, .cb1F_RR_A]

/-- CB table, indices 20-2F: R2032-R2047. -/
def cbRows2 : List Instr := [
  .cb20_SLA_B, .cb21_SLA_C, .cb22_SLA_D, .cb23_SLA_E,
  .cb24_SLA_H, .cb25_SLA_L, .cb26_SLA_mHL, .cb27_SLA_A,
  .cb28_SRA_B, .cb29_SRA_C, .cb2A_SRA_D, .cb2B_SRA_E,
  .cb2C_SRA_H, .cb2D_SRA_L, .cb2E_SRA_mHL, .cb2F_SRA_A]

/-- CB table, indices 30-3F: R2048-R2063. -/
def cbRows3 : List Instr := [
  .cb30_SLL_B, .cb31_SLL_C, .cb32_SLL_D, .cb33_SLL_E,
  .cb34_SLL_H, .cb35_SLL_L, .cb36_SLL_mHL, .cb37_SLL_A,
  .cb38_SRL_B, .cb39_SRL_C, .cb3A_SRL_D, .cb3B_SRL_E,
  .cb3C_SRL_H, .cb3D_SRL_L, .cb3E_SRL_mHL, .cb3F_SRL_A]

/-- CB table, indices 40-4F: R2064-R2079. -/
def cbRows4 : List Instr := [
  .cb40_BIT_0_B, .cb41_BIT_0_C, .cb42_BIT_0_D, .cb43_BIT_0_E,
  .cb44_BIT_0_H, .cb45_BIT_0_L, .cb46_BIT_0_mHL, .cb47_BIT_0_A,
  .cb48_BIT_1_B, .cb49_BIT_1_C, .cb4A_BIT_1_D, .cb4B_BIT_1_E,
  .cb4C_BIT_1_H, .cb4D_BIT_1_L, .cb4E_BIT_1_mHL, .cb4F_BIT_1_A]

/-- CB table, indices 50-5F: R2080-R2095. -/
def cbRows5 : List Instr := [
  .cb50_BIT_2_B, .cb51_BIT_2_C, .cb52_BIT_2_D, .cb53_BIT_2_E,
  .cb54_BIT_2_H, .cb55_BIT_2_L, .cb56_BIT_2_mHL, .cb57_BIT_2_A,
  .cb58_BIT_3_B, .cb59_BIT_3_C, .cb5A_BIT_3_D, .cb5B_BIT_3_E,
  .cb5C_BIT_3_H, .cb5D_BIT_3_L, .cb5E_BIT_3_mHL, .cb5F_BIT_3_A]

/-- CB table, indices 60-6F: R2096-R2111. -/
def cbRows6 : List Instr := [
  .cb60_BIT_4_B, .cb61_BIT_4_C, .cb62_BIT_4_D, .cb63_BIT_4_E,
  .cb64_BIT_4_H, .cb65_BIT_4_L, .cb66_BIT_4_mHL, .cb67_BIT_4_A,
  .cb68_BIT_5_B, .cb69_BIT_5_C, .cb6A_BIT_5_D, .cb6B_BIT_5_E,
  .cb6C_BIT_5_H, .cb6D_BIT_5_L, .cb6E_BIT_5_mHL, .cb6F_BIT_5_A]

/-- CB table, indices 70-7F: R2112-R2127. -/
def cbRows7 : List Instr := [
  .cb70_BIT_6_B, .cb71_BIT_6_C, .cb72_BIT_6_D, .cb73_BIT_6_E,
  .cb74_BIT_6_H, .cb75_BIT_6_L, .cb76_BIT_6_mHL, .cb77_BIT_6_A,
  .cb78_BIT_7_B, .cb79_BIT_7_C, .cb7A_BIT_7_D, .cb7B_BIT_7_E,
  .cb7C_BIT_7_H, .cb7D_BIT_7_L, .cb7E_BIT_7_mHL, .cb7F_BIT_7_A]

/-- CB table, indices 80-8F: R2128-R2143. -/
def cbRows8 : List Instr := [
  .cb80_RES_0_B, .cb81_RES_0_C, .cb82_RES_0_D, .cb83_RES_0_E,
  .cb84_RES_0_H, .cb85_RES_0_L, .cb86_RES_0_mHL, .cb87_RES_0_A,
  .cb88_RES_1_B, .cb89_RES_1_C, .cb8A_RES_1_D, .cb8B_RES_1_E,
  .cb8C_RES_1_H, .cb8D_RES_1_L, .cb8E_RES_1_mHL, .cb8F_RES_1_A]

/-- CB table, indices 90-9F: R2144-R2159. -/
def cbRows9 : List Instr := [
  .cb90_RES_2_B, .cb91_RES_2_C, .cb92_RES_2_D, .cb93_RES_2_E,
  .cb94_RES_2_H, .cb95_RES_2_L, .cb96_RES_2_mHL, .cb97_RES_2_A,
  .cb98_RES_3_B, .cb99_RES_3_C, .cb9A_RES_3_D, .cb9B_RES_3_E,
  .cb9C_RES_3_H, .cb9D_RES_3_L, .cb9E_RES_3_mHL, .cb9F_RES_3_A]

/-- CB table, indices A0-AF: R2160-R2175. -/
def cbRowsA : List Instr := [
  .cbA0_RES_4_B, .cbA1_RES_4_C, .cbA2_RES_4_D, .cbA3_RES_4_E,
  .cbA4_RES_4_H, .cbA5_RES_4_L, .cbA6_RES_4_mHL, .cbA7_RES_4_A,
  .cbA8_RES_5_B, .cbA9_RES_5_C, .cbAA_RES_5_D, .cbAB_RES_5_E,
  .cbAC_RES_5_H, .cbAD_RES_5_L, .cbAE_RES_5_mHL, .cbAF_RES_5_A]

/-- CB table, indices B0-BF: R2176-R2191. -/
def cbRowsB : List Instr := [
  .cbB0_RES_6_B, .cbB1_RES_6_C, .cbB2_RES_6_D, .cbB3_RES_6_E,
  .cbB4_RES_6_H, .cbB5_RES_6_L, .cbB6_RES_6_mHL, .cbB7_RES_6_A,
  .cbB8_RES_7_B, .cbB9_RES_7_C, .cbBA_RES_7_D, .cbBB_RES_7_E,
  .cbBC_RES_7_H, .cbBD_RES_7_L, .cbBE_RES_7_mHL, .cbBF_RES_7_A]

/-- CB table, indices C0-CF: R2192-R2207. -/
def cbRowsC : List Instr := [
  .cbC0_SET_0_B, .cbC1_SET_0_C, .cbC2_SET_0_D, .cbC3_SET_0_E,
  .cbC4_SET_0_H, .cbC5_SET_0_L, .cbC6_SET_0_mHL, .cbC7_SET_0_A,
  .cbC8_SET_1_B, .cbC9_SET_1_C, .cbCA_SET_1_D, .cbCB_SET_1_E,
  .cbCC_SET_1_H, .cbCD_SET_1_L, .cbCE_SET_1_mHL, .cbCF_SET_1_A]

/-- CB table, indices D0-DF: R2208-R2223. -/
def cbRowsD : List Instr := [
  .cbD0_SET_2_B, .cbD1_SET_2_C, .cbD2_SET_2_D, .cbD3_SET_2_E,
  .cbD4_SET_2_H, .cbD5_SET_2_L, .cbD6_SET_2_mHL, .cbD7_SET_2_A,
  .cbD8_SET_3_B, .cbD9_SET_3_C, .cbDA_SET_3_D, .cbDB_SET_3_E,
  .cbDC_SET_3_H, .cbDD_SET_3_L, .cbDE_SET_3_mHL, .cbDF_SET_3_A]

/-- CB table, indices E0-EF: R2224-R2239. -/
def cbRowsE : List Instr := [
  .cbE0_SET_4_B, .cbE1_SET_4_C, .cbE2_SET_4_D, .cbE3_SET_4_E,
  .cbE4_SET_4_H, .cbE5_SET_4_L, .cbE6_SET_4_mHL, .cbE7_SET_4_A,
  .cbE8_SET_5_B, .cbE9_SET_5_C, .cbEA_SET_5_D, .cbEB_SET_5_E,
  .cbEC_SET_5_H, .cbED_SET_5_L, .cbEE_SET_5_mHL, .cbEF_SET_5_A]

/-- CB table, indices F0-FF: R2240-R2255. -/
def cbRowsF : List Instr := [
  .cbF0_SET_6_B, .cbF1_SET_6_C, .cbF2_SET_6_D, .cbF3_SET_6_E,
  .cbF4_SET_6_H, .cbF5_SET_6_L, .cbF6_SET_6_mHL, .cbF7_SET_6_A,
  .cbF8_SET_7_B, .cbF9_SET_7_C, .cbFA_SET_7_D, .cbFB_SET_7_E,
  .cbFC_SET_7_H, .cbFD_SET_7_L, .cbFE_SET_7_mHL, .cbFF_SET_7_A]

/-- The CB table, one list for each high digit of the index. -/
def cbRows : List (List Instr) := [
  cbRows0, cbRows1, cbRows2, cbRows3, cbRows4, cbRows5, cbRows6, cbRows7,
  cbRows8, cbRows9, cbRowsA, cbRowsB, cbRowsC, cbRowsD, cbRowsE, cbRowsF]

/-- ED table, indices 00-0F: R3000-R3015. -/
def edRows0 : List Instr := [
  .ed00_PLACEHOLDER, .ed01_PLACEHOLDER, .ed02_PLACEHOLDER, .ed03_PLACEHOLDER,
  .ed04_PLACEHOLDER, .ed05_PLACEHOLDER, .ed06_PLACEHOLDER, .ed07_PLACEHOLDER,
  .ed08_PLACEHOLDER, .ed09_PLACEHOLDER, .ed0A_PLACEHOLDER, .ed0B_PLACEHOLDER,
  .ed0C_PLACEHOLDER, .ed0D_PLACEHOLDER, .ed0E_PLACEHOLDER, .ed0F_PLACEHOLDER]

/-- ED table, indices 10-1F: R3016-R3031. -/
def edRows1 : List Instr := [
  .ed10_PLACEHOLDER, .ed11_PLACEHOLDER, .ed12_PLACEHOLDER, .ed13_PLACEHOLDER,
  .ed14_PLACEHOLDER, .ed15_PLACEHOLDER, .ed16_PLACEHOLDER, .ed17_PLACEHOLDER,
  .ed18_PLACEHOLDER, .ed19_PLACEHOLDER, .ed1A_PLACEHOLDER, .ed1B_PLACEHOLDER,
  .ed1C_PLACEHOLDER, .ed1D_PLACEHOLDER, .ed1E_PLACEHOLDER, .ed1F_PLACEHOLDER]

/-- ED table, indices 20-2F: R3032-R3047. -/
def edRows2 : List Instr := [
  .ed20_PLACEHOLDER, .ed21_PLACEHOLDER, .ed22_PLACEHOLDER, .ed23_PLACEHOLDER,
  .ed24_PLACEHOLDER, .ed25_PLACEHOLDER, .ed26_PLACEHOLDER, .ed27_PLACEHOLDER,
  .ed28_PLACEHOLDER, .ed29_PLACEHOLDER, .ed2A_PLACEHOLDER, .ed2B_PLACEHOLDER,
  .ed2C_PLACEHOLDER, .ed2D_PLACEHOLDER, .ed2E_PLACEHOLDER, .ed2F_PLACEHOLDER]

/-- ED table, indices 30-3F: R3048-R3063. -/
def edRows3 : List Instr := [
  .ed30_PLACEHOLDER, .ed31_PLACEHOLDER, .ed32_PLACEHOLDER, .ed33_PLACEHOLDER,
  .ed34_PLACEHOLDER, .ed35_PLACEHOLDER, .ed36_PLACEHOLDER, .ed37_PLACEHOLDER,
  .ed38_PLACEHOLDER, .ed39_PLACEHOLDER, .ed3A_PLACEHOLDER, .ed3B_PLACEHOLDER,
  .ed3C_PLACEHOLDER, .ed3D_PLACEHOLDER, .ed3E_PLACEHOLDER, .ed3F_PLACEHOLDER]

/-- ED table, indices 40-4F: R3064-R3079. -/
def edRows4 : List Instr := [
  .ed40_IN_B_mC, .ed41_OUT_mC_B, .ed42_SBC_HL_BC, .ed43_LD_mnn_BC,
  .ed44_NEG, .ed45_RETN, .ed46_IM_0, .ed47_LD_I_A,
  .ed48_IN_C_mC, .ed49_OUT_mC_C, .ed4A_ADC_HL_BC, .ed4B_LD_BC_mnn,
  .ed4C_NEG, .ed4D_RETI, .ed4E_IM_0, .ed4F_LD_R_A]

/-- ED table, indices 50-5F: R3080-R3095. -/
def edRows5 : List Instr := [
  .ed50_IN_D_mC, .ed51_OUT_mC_D, .ed52_SBC_HL_DE, .ed53_LD_mnn_DE,
  .ed54_NEG, .ed55_RETN, .ed56_IM_1, .ed57_LD_A_I,
  .ed58_IN_E_mC, .ed59_OUT_mC_E, .ed5A_ADC_HL_DE, .ed5B_LD_DE_mnn,
  .ed5C_NEG, .ed5D_RETN, .ed5E_IM_2, .ed5F_LD_A_R]

/-- ED table, indices 60-6F: R3096-R3111. -/
def edRows6 : List Instr := [
  .ed60_IN_H_mC, .ed61_OUT_mC_H, .ed62_SBC_HL_HL, .ed63_LD_mnn_HL,
  .ed64_NEG, .ed65_RETN, .ed66_IM_0, .ed67_RRD,
  .ed68_IN_L_mC, .ed69_OUT_mC_L, .ed6A_ADC_HL_HL, .ed6B_LD_HL_mnn,
  .ed6C_NEG, .ed6D_RETN, .ed6E_IM_0, .ed6F_RLD]

/-- ED table, indices 70-7F: R3112-R3127. -/
def edRows7 : List Instr := [
  .ed70_IN_mC, .ed71_OUT_mC_0, .ed72_SBC_HL_SP, .ed73_LD_mnn_SP,
  .ed74_NEG, .ed75_RETN, .ed76_IM_1, .ed77_PLACEHOLDER,
  .ed78_IN_A_mC, .ed79_OUT_mC_A, .ed7A_ADC_HL_SP, .ed7B_LD_SP_mnn,
  .ed7C_NEG, .ed7D_RETN, .ed7E_IM_2, .ed7F_PLACEHOLDER]

/-- ED table, indices 80-8F: R3128-R3143. -/
def edRows8 : List Instr := [
  .ed80_PLACEHOLDER, .ed81_PLACEHOLDER, .ed82_PLACEHOLDER, .ed83_PLACEHOLDER,
  .ed84_PLACEHOLDER, .ed85_PLACEHOLDER, .ed86_PLACEHOLDER, .ed87_PLACEHOLDER,
  .ed88_PLACEHOLDER, .ed89_PLACEHOLDER, .ed8A_PLACEHOLDER, .ed8B_PLACEHOLDER,
  .ed8C_PLACEHOLDER, .ed8D_PLACEHOLDER, .ed8E_PLACEHOLDER, .ed8F_PLACEHOLDER]

/-- ED table, indices 90-9F: R3144-R3159. -/
def edRows9 : List Instr := [
  .ed90_PLACEHOLDER, .ed91_PLACEHOLDER, .ed92_PLACEHOLDER, .ed93_PLACEHOLDER,
  .ed94_PLACEHOLDER, .ed95_PLACEHOLDER, .ed96_PLACEHOLDER, .ed97_PLACEHOLDER,
  .ed98_PLACEHOLDER, .ed99_PLACEHOLDER, .ed9A_PLACEHOLDER, .ed9B_PLACEHOLDER,
  .ed9C_PLACEHOLDER, .ed9D_PLACEHOLDER, .ed9E_PLACEHOLDER, .ed9F_PLACEHOLDER]

/-- ED table, indices A0-AF: R3160-R3175. -/
def edRowsA : List Instr := [
  .edA0_LDI, .edA1_CPI, .edA2_INI, .edA3_OUTI,
  .edA4_PLACEHOLDER, .edA5_PLACEHOLDER, .edA6_PLACEHOLDER, .edA7_PLACEHOLDER,
  .edA8_LDD, .edA9_CPD, .edAA_IND, .edAB_OUTD,
  .edAC_PLACEHOLDER, .edAD_PLACEHOLDER, .edAE_PLACEHOLDER, .edAF_PLACEHOLDER]

/-- ED table, indices B0-BF: R3176-R3191. -/
def edRowsB : List Instr := [
  .edB0_LDIR, .edB1_CPIR, .edB2_INIR, .edB3_OTIR,
  .edB4_PLACEHOLDER, .edB5_PLACEHOLDER, .edB6_PLACEHOLDER, .edB7_PLACEHOLDER,
  .edB8_LDDR, .edB9_CPDR, .edBA_INDR, .edBB_OTDR,
  .edBC_PLACEHOLDER, .edBD_PLACEHOLDER, .edBE_PLACEHOLDER, .edBF_PLACEHOLDER]

/-- ED table, indices C0-CF: R3192-R3207. -/
def edRowsC : List Instr := [
  .edC0_PLACEHOLDER, .edC1_PLACEHOLDER, .edC2_PLACEHOLDER, .edC3_PLACEHOLDER,
  .edC4_PLACEHOLDER, .edC5_PLACEHOLDER, .edC6_PLACEHOLDER, .edC7_PLACEHOLDER,
  .edC8_PLACEHOLDER, .edC9_PLACEHOLDER, .edCA_PLACEHOLDER, .edCB_PLACEHOLDER,
  .edCC_PLACEHOLDER, .edCD_PLACEHOLDER, .edCE_PLACEHOLDER, .edCF_PLACEHOLDER]

/-- ED table, indices D0-DF: R3208-R3223. -/
def edRowsD : List Instr := [
  .edD0_PLACEHOLDER, .edD1_PLACEHOLDER, .edD2_PLACEHOLDER, .edD3_PLACEHOLDER,
  .edD4_PLACEHOLDER, .edD5_PLACEHOLDER, .edD6_PLACEHOLDER, .edD7_PLACEHOLDER,
  .edD8_PLACEHOLDER, .edD9_PLACEHOLDER, .edDA_PLACEHOLDER, .edDB_PLACEHOLDER,
  .edDC_PLACEHOLDER, .edDD_PLACEHOLDER, .edDE_PLACEHOLDER, .edDF_PLACEHOLDER]

/-- ED table, indices E0-EF: R3224-R3239. -/
def edRowsE : List Instr := [
  .edE0_PLACEHOLDER, .edE1_PLACEHOLDER, .edE2_PLACEHOLDER, .edE3_PLACEHOLDER,
  .edE4_PLACEHOLDER, .edE5_PLACEHOLDER, .edE6_PLACEHOLDER, .edE7_PLACEHOLDER,
  .edE8_PLACEHOLDER, .edE9_PLACEHOLDER, .edEA_PLACEHOLDER, .edEB_PLACEHOLDER,
  .edEC_PLACEHOLDER, .edED_PLACEHOLDER, .edEE_PLACEHOLDER, .edEF_PLACEHOLDER]

/-- ED table, indices F0-FF: R3240-R3255. -/
def edRowsF : List Instr := [
  .edF0_PLACEHOLDER, .edF1_PLACEHOLDER, .edF2_PLACEHOLDER, .edF3_PLACEHOLDER,
  .edF4_PLACEHOLDER, .edF5_PLACEHOLDER, .edF6_PLACEHOLDER, .edF7_PLACEHOLDER,
  .edF8_PLACEHOLDER, .edF9_PLACEHOLDER, .edFA_PLACEHOLDER, .edFB_PLACEHOLDER,
  .edFC_PLACEHOLDER, .edFD_PLACEHOLDER, .edFE_PLACEHOLDER, .edFF_PLACEHOLDER]

/-- The ED table, one list for each high digit of the index. -/
def edRows : List (List Instr) := [
  edRows0, edRows1, edRows2, edRows3, edRows4, edRows5, edRows6, edRows7,
  edRows8, edRows9, edRowsA, edRowsB, edRowsC, edRowsD, edRowsE, edRowsF]

/-- DD table (index register IX), indices 00-0F: R4000-R4015. -/
def ddRows0 : List Instr := [
  .dd00_NOP, .dd01_LD_BC_nn, .dd02_LD_mBC_A, .dd03_INC_BC,
  .dd04_INC_B, .dd05_DEC_B, .dd06_LD_B_n, .dd07_RLCA,
  .dd08_EX_AF_AFx, .dd09_ADD_IX_BC, .dd0A_LD_A_mBC, .dd0B_DEC_BC,
  .dd0C_INC_C, .dd0D_DEC_C, .dd0E_LD_C_n, .dd0F_RRCA]

/-- DD table (index register IX), indices 10-1F: R4016-R4031. -/
def ddRows1 : List Instr := [
  .dd10_DJNZ_e, .dd11_LD_DE_nn, .dd12_LD_mDE_A, .dd13_INC_DE,
  .dd14_INC_D, .dd15_DEC_D, .dd16_LD_D_n, .dd17_RLA,
  .dd18_JR_e, .dd19_ADD_IX_DE, .dd1A_LD_A_mDE, .dd1B_DEC_DE,
  .dd1C_INC_E, .dd1D_DEC_E, .dd1E_LD_E_n, .dd1F_RRA]

/-- DD table (index register IX), indices 20-2F: R4032-R4047. -/
def ddRows2 : List Instr := [
  .dd20_JR_NZ_e, .dd21_LD_IX_nn, .dd22_LD_mnn_IX, .dd23_INC_IX,
  .dd24_INC_IXH, .dd25_DEC_IXH, .dd26_LD_IXH_n, .dd27_DAA,
  .dd28_JR_Z_e, .dd29_ADD_IX_IX, .dd2A_LD_IX_mnn, .dd2B_DEC_IX,
  .dd2C_INC_IXL, .dd2D_DEC_IXL, .dd2E_LD_IXL_n, .dd2F_CPL]

/-- DD table (index register IX), indices 30-3F: R4048-R4063. -/
def ddRows3 : List Instr := [
  .dd30_JR_NC_e, .dd31_LD_SP_nn, .dd32_LD_mnn_A, .dd33_INC_SP,
  .dd34_INC_mIXd, .dd35_DEC_mIXd, .dd36_LD_mIXd_n, .dd37_SCF,
  .dd38_JR_C_e, .dd39_ADD_IX_SP, .dd3A_LD_A_mnn, .dd3B_DEC_SP,
  .dd3C_INC_A, .dd3D_DEC_A, .dd3E_LD_A_n, .dd3F_CCF]

/-- DD table (index register IX), indices 40-4F: R4064-R4079. -/
def ddRows4 : List Instr := [
  .dd40_LD_B_B, .dd41_LD_B_C, .dd42_LD_B_D, .dd43_LD_B_E,
  .dd44_LD_B_IXH, .dd45_LD_B_IXL, .dd46_LD_B_mIXd, .dd47_LD_B_A,
  .dd48_LD_C_B, .dd49_LD_C_C, .dd4A_LD_C_D, .dd4B_LD_C_E,
  .dd4C_LD_C_IXH, .dd4D_LD_C_IXL, .dd4E_LD_C_mIXd, .dd4F_LD_C_A]

/-- DD table (index register IX), indices 50-5F: R4080-R4095. -/
def ddRows5 : List Instr := [
  .dd50_LD_D_B, .dd51_LD_D_C, .dd52_LD_D_D, .dd53_LD_D_E,
  .dd54_LD_D_IXH, .dd55_LD_D_IXL, .dd56_LD_D_mIXd, .dd57_LD_D_A,
  .dd58_LD_E_B, .dd59_LD_E_C, .dd5A_LD_E_D, .dd5B_LD_E_E,
  .dd5C_LD_E_IXH, .dd5D_LD_E_IXL, .dd5E_LD_E_mIXd, .dd5F_LD_E_A]

/-- DD table (index register IX), indices 60-6F: R4096-R4111. -/
def ddRows6 : List Instr := [
  .dd60_LD_IXH_B, .dd61_LD_IXH_C, .dd62_LD_IXH_D, .dd63_LD_IXH_E,
  .dd64_LD_IXH_IXH, .dd65_LD_IXH_IXL, .dd66_LD_H_mIXd, .dd67_LD_IXH_A,
  .dd68_LD_IXL_B, .dd69_LD_IXL_C, .dd6A_LD_IXL_D, .dd6B_LD_IXL_E,
  .dd6C_LD_IXL_IXH, .dd6D_LD_IXL_IXL, .dd6E_LD_L_mIXd, .dd6F_LD_IXL_A]

/-- DD table (index register IX), indices 70-7F: R4112-R4127. -/
def ddRows7 : List Instr := [
  .dd70_LD_mIXd_B, .dd71_LD_mIXd_C, .dd72_LD_mIXd_D, .dd73_LD_mIXd_E,
  .dd74_LD_mIXd_H, .dd75_LD_mIXd_L, .dd76_HALT, .dd77_LD_mIXd_A,
  .dd78_LD_A_B, .dd79_LD_A_C, .dd7A_LD_A_D, .dd7B_LD_A_E,
  .dd7C_LD_A_IXH, .dd7D_LD_A_IXL, .dd7E_LD_A_mIXd, .dd7F_LD_A_A]

/-- DD table (index register IX), indices 80-8F: R4128-R4143. -/
def ddRows8 : List Instr := [
  .dd80_ADD_A_B, .dd81_ADD_A_C, .dd82_ADD_A_D, .dd83_ADD_A_E,
  .dd84_ADD_A_IXH, .dd85_ADD_A_IXL, .dd86_ADD_A_mIXd, .dd87_ADD_A_A,
  .dd88_ADC_A_B, .dd89_ADC_A_C, .dd8A_ADC_A_D, .dd8B_ADC_A_E,
  .dd8C_ADC_A_IXH, .dd8D_ADC_A_IXL, .dd8E_ADC_A_mIXd, .dd8F_ADC_A_A]

/-- DD table (index register IX), indices 90-9F: R4144-R4159. -/
def ddRows9 : List Instr := [
  .dd90_SUB_B, .dd91_SUB_C, .dd92_SUB_D, .dd93_SUB_E,
  .dd94_SUB_IXH, .dd95_SUB_IXL, .dd96_SUB_mIXd, .dd97_SUB_A,
  .dd98_SBC_A_B, .dd99_SBC_A_C, .dd9A_SBC_A_D, .dd9B_SBC_A_E,
  .dd9C_SBC_A_IXH, .dd9D_SBC_A_IXL, .dd9E_SBC_A_mIXd, .dd9F_SBC_A_A]

/-- DD table (index register IX), indices A0-AF: R4160-R4175. -/
def ddRowsA : List Instr := [
  .ddA0_AND_B, .ddA1_AND_C, .ddA2_AND_D, .ddA3_AND_E,
  .ddA4_AND_IXH, .ddA5_AND_IXL, .ddA6_AND_mIXd, .ddA7_AND_A,
  .ddA8_XOR_B, .ddA9_XOR_C, .ddAA_XOR_D, .ddAB_XOR_E,
  .ddAC_XOR_IXH, .ddAD_XOR_IXL, .ddAE_XOR_mIXd, .ddAF_XOR_A]

/-- DD table (index register IX), indices B0-BF: R4176-R4191. -/
def ddRowsB : List Instr := [
  .ddB0_OR_B, .ddB1_OR_C, .ddB2_OR_D, .ddB3_OR_E,
  .ddB4_OR_IXH, .ddB5_OR_IXL, .ddB6_OR_mIXd, .ddB7_OR_A,
  .ddB8_CP_B, .ddB9_CP_C, .ddBA_CP_D, .ddBB_CP_E,
  .ddBC_CP_IXH, .ddBD_CP_IXL, .ddBE_CP_mIXd, .ddBF_CP_A]

/-- DD table (index register IX), indices C0-CF: R4192-R4207. -/
def ddRowsC : List Instr := [
  .ddC0_RET_NZ, .ddC1_POP_BC, .ddC2_JP_NZ_nn, .ddC3_JP_nn,
  .ddC4_CALL_NZ_nn, .ddC5_PUSH_BC, .ddC6_ADD_A_n, .ddC7_RST_00H,
  .ddC8_RET_Z, .ddC9_RET, .ddCA_JP_Z_nn, .ddCB_PREFIX_DDCB,
  .ddCC_CALL_Z_nn, .ddCD_CALL_nn, .ddCE_ADC_A_n, .ddCF_RST_08H]

/-- DD table (index register IX), indices D0-DF: R4208-R4223. -/
def ddRowsD : List Instr := [
  .ddD0_RET_NC, .ddD1_POP_DE, .ddD2_JP_NC_nn, .ddD3_OUT_mn_A,
  .ddD4_CALL_NC_nn, .ddD5_PUSH_DE, .ddD6_SUB_n, .ddD7_RST_10H,
  .ddD8_RET_C, .ddD9_EXX, .ddDA_JP_C_nn, .ddDB_IN_A_mn,
  .ddDC_CALL_C_nn, .ddDD_PLACEHOLDER, .ddDE_SBC_A_n, .ddDF_RST_18H]

/-- DD table (index register IX), indices E0-EF: R4224-R4239. -/
def ddRowsE : List Instr := [
  .ddE0_RET_PO, .ddE1_POP_IX, .ddE2_JP_PO_nn, .ddE3_EX_mSP_IX,
  .ddE4_CALL_PO_nn, .ddE5_PUSH_IX, .ddE6_AND_n, .ddE7_RST_20H,
  .ddE8_RET_PE, .ddE9_JP_mIX, .ddEA_JP_PE_nn, .ddEB_EX_DE_HL,
  .ddEC_CALL_PE_nn, .ddED_PLACEHOLDER, .ddEE_XOR_n, .ddEF_RST_28H]

/-- DD table (index register IX), indices F0-FF: R4240-R4255. -/
def ddRowsF : List Instr := [
  .ddF0_RET_P, .ddF1_POP_AF, .ddF2_JP_P_nn, .ddF3_DI,
  .ddF4_CALL_P_nn, .ddF5_PUSH_AF, .ddF6_OR_n, .ddF7_RST_30H,
  .ddF8_RET_M, .ddF9_LD_SP_IX, .ddFA_JP_M_nn, .ddFB_EI,
  .ddFC_CALL_M_nn, .ddFD_PLACEHOLDER, .ddFE_CP_n, .ddFF_RST_38H]

/-- The DD table (index register IX), one list for each high digit of the index. -/
def ddRows : List (List Instr) := [
  ddRows0, ddRows1, ddRows2, ddRows3, ddRows4, ddRows5, ddRows6, ddRows7,
  ddRows8, ddRows9, ddRowsA, ddRowsB, ddRowsC, ddRowsD, ddRowsE, ddRowsF]

/-- FD table (index register IY), indices 00-0F: R5000-R5015. -/
def fdRows0 : List Instr := [
  .fd00_NOP, .fd01_LD_BC_nn, .fd02_LD_mBC_A, .fd03_INC_BC,
  .fd04_INC_B, .fd05_DEC_B, .fd06_LD_B_n, .fd07_RLCA,
  .fd08_EX_AF_AFx, .fd09_ADD_IY_BC, .fd0A_LD_A_mBC, .fd0B_DEC_BC,
  .fd0C_INC_C, .fd0D_DEC_C, .fd0E_LD_C_n, .fd0F_RRCA]

/-- FD table (index register IY), indices 10-1F: R5016-R5031. -/
def fdRows1 : List Instr := [
  .fd10_DJNZ_e, .fd11_LD_DE_nn, .fd12_LD_mDE_A, .fd13_INC_DE,
  .fd14_INC_D, .fd15_DEC_D, .fd16_LD_D_n, .fd17_RLA,
  .fd18_JR_e, .fd19_ADD_IY_DE, .fd1A_LD_A_mDE, .fd1B_DEC_DE,
  .fd1C_INC_E, .fd1D_DEC_E, .fd1E_LD_E_n, .fd1F_RRA]

/-- FD table (index register IY), indices 20-2F: R5032-R5047. -/
def fdRows2 : List Instr := [
  .fd20_JR_NZ_e, .fd21_LD_IY_nn, .fd22_LD_mnn_IY, .fd23_INC_IY,
  .fd24_INC_IYH, .fd25_DEC_IYH, .fd26_LD_IYH_n, .fd27_DAA,
  .fd28_JR_Z_e, .fd29_ADD_IY_IY, .fd2A_LD_IY_mnn, .fd2B_DEC_IY,
  .fd2C_INC_IYL, .fd2D_DEC_IYL, .fd2E_LD_IYL_n, .fd2F_CPL]

/-- FD table (index register IY), indices 30-3F: R5048-R5063. -/
def fdRows3 : List Instr := [
  .fd30_JR_NC_e, .fd31_LD_SP_nn, .fd32_LD_mnn_A, .fd33_INC_SP,
  .fd34_INC_mIYd, .fd35_DEC_mIYd, .fd36_LD_mIYd_n, .fd37_SCF,
  .fd38_JR_C_e, .fd39_ADD_IY_SP, .fd3A_LD_A_mnn, .fd3B_DEC_SP,
  .fd3C_INC_A, .fd3D_DEC_A, .fd3E_LD_A_n, .fd3F_CCF]

/-- FD table (index register IY), indices 40-4F: R5064-R5079. -/
def fdRows4 : List Instr := [
  .fd40_LD_B_B, .fd41_LD_B_C, .fd42_LD_B_D, .fd43_LD_B_E,
  .fd44_LD_B_IYH, .fd45_LD_B_IYL, .fd46_LD_B_mIYd, .fd47_LD_B_A,
  .fd48_LD_C_B, .fd49_LD_C_C, .fd4A_LD_C_D, .fd4B_LD_C_E,
  .fd4C_LD_C_IYH, .fd4D_LD_C_IYL, .fd4E_LD_C_mIYd, .fd4F_LD_C_A]

/-- FD table (index register IY), indices 50-5F: R5080-R5095. -/
def fdRows5 : List Instr := [
  .fd50_LD_D_B, .fd51_LD_D_C, .fd52_LD_D_D, .fd53_LD_D_E,
  .fd54_LD_D_IYH, .fd55_LD_D_IYL, .fd56_LD_D_mIYd, .fd57_LD_D_A,
  .fd58_LD_E_B, .fd59_LD_E_C, .fd5A_LD_E_D, .fd5B_LD_E_E,
  .fd5C_LD_E_IYH, .fd5D_LD_E_IYL, .fd5E_LD_E_mIYd, .fd5F_LD_E_A]

/-- FD table (index register IY), indices 60-6F: R5096-R5111. -/
def fdRows6 : List Instr := [
  .fd60_LD_IYH_B, .fd61_LD_IYH_C, .fd62_LD_IYH_D, .fd63_LD_IYH_E,
  .fd64_LD_IYH_IYH, .fd65_LD_IYH_IYL, .fd66_LD_H_mIYd, .fd67_LD_IYH_A,
  .fd68_LD_IYL_B, .fd69_LD_IYL_C, .fd6A_LD_IYL_D, .fd6B_LD_IYL_E,
  .fd6C_LD_IYL_IYH, .fd6D_LD_IYL_IYL, .fd6E_LD_L_mIYd, .fd6F_LD_IYL_A]

/-- FD table (index register IY), indices 70-7F: R5112-R5127. -/
def fdRows7 : List Instr := [
  .fd70_LD_mIYd_B, .fd71_LD_mIYd_C, .fd72_LD_mIYd_D, .fd73_LD_mIYd_E,
  .fd74_LD_mIYd_H, .fd75_LD_mIYd_L, .fd76_HALT, .fd77_LD_mIYd_A,
  .fd78_LD_A_B, .fd79_LD_A_C, .fd7A_LD_A_D, .fd7B_LD_A_E,
  .fd7C_LD_A_IYH, .fd7D_LD_A_IYL, .fd7E_LD_A_mIYd, .fd7F_LD_A_A]

/-- FD table (index register IY), indices 80-8F: R5128-R5143. -/
def fdRows8 : List Instr := [
  .fd80_ADD_A_B, .fd81_ADD_A_C, .fd82_ADD_A_D, .fd83_ADD_A_E,
  .fd84_ADD_A_IYH, .fd85_ADD_A_IYL, .fd86_ADD_A_mIYd, .fd87_ADD_A_A,
  .fd88_ADC_A_B, .fd89_ADC_A_C, .fd8A_ADC_A_D, .fd8B_ADC_A_E,
  .fd8C_ADC_A_IYH, .fd8D_ADC_A_IYL, .fd8E_ADC_A_mIYd, .fd8F_ADC_A_A]

/-- FD table (index register IY), indices 90-9F: R5144-R5159. -/
def fdRows9 : List Instr := [
  .fd90_SUB_B, .fd91_SUB_C, .fd92_SUB_D, .fd93_SUB_E,
  .fd94_SUB_IYH, .fd95_SUB_IYL, .fd96_SUB_mIYd, .fd97_SUB_A,
  .fd98_SBC_A_B, .fd99_SBC_A_C, .fd9A_SBC_A_D, .fd9B_SBC_A_E,
  .fd9C_SBC_A_IYH, .fd9D_SBC_A_IYL, .fd9E_SBC_A_mIYd, .fd9F_SBC_A_A]

/-- FD table (index register IY), indices A0-AF: R5160-R5175. -/
def fdRowsA : List Instr := [
  .fdA0_AND_B, .fdA1_AND_C, .fdA2_AND_D, .fdA3_AND_E,
  .fdA4_AND_IYH, .fdA5_AND_IYL, .fdA6_AND_mIYd, .fdA7_AND_A,
  .fdA8_XOR_B, .fdA9_XOR_C, .fdAA_XOR_D, .fdAB_XOR_E,
  .fdAC_XOR_IYH, .fdAD_XOR_IYL, .fdAE_XOR_mIYd, .fdAF_XOR_A]

/-- FD table (index register IY), indices B0-BF: R5176-R5191. -/
def fdRowsB : List Instr := [
  .fdB0_OR_B, .fdB1_OR_C, .fdB2_OR_D, .fdB3_OR_E,
  .fdB4_OR_IYH, .fdB5_OR_IYL, .fdB6_OR_mIYd, .fdB7_OR_A,
  .fdB8_CP_B, .fdB9_CP_C, .fdBA_CP_D, .fdBB_CP_E,
  .fdBC_CP_IYH, .fdBD_CP_IYL, .fdBE_CP_mIYd, .fdBF_CP_A]

/-- FD table (index register IY), indices C0-CF: R5192-R5207. -/
def fdRowsC : List Instr := [
  .fdC0_RET_NZ, .fdC1_POP_BC, .fdC2_JP_NZ_nn, .fdC3_JP_nn,
  .fdC4_CALL_NZ_nn, .fdC5_PUSH_BC, .fdC6_ADD_A_n, .fdC7_RST_00H,
  .fdC8_RET_Z, .fdC9_RET, .fdCA_JP_Z_nn, .fdCB_PREFIX_FDCB,
  .fdCC_CALL_Z_nn, .fdCD_CALL_nn, .fdCE_ADC_A_n, .fdCF_RST_08H]

/-- FD table (index register IY), indices D0-DF: R5208-R5223. -/
def fdRowsD : List Instr := [
  .fdD0_RET_NC, .fdD1_POP_DE, .fdD2_JP_NC_nn, .fdD3_OUT_mn_A,
  .fdD4_CALL_NC_nn, .fdD5_PUSH_DE, .fdD6_SUB_n, .fdD7_RST_10H,
  .fdD8_RET_C, .fdD9_EXX, .fdDA_JP_C_nn, .fdDB_IN_A_mn,
  .fdDC_CALL_C_nn, .fdDD_PLACEHOLDER, .fdDE_SBC_A_n, .fdDF_RST_18H]

/-- FD table (index register IY), indices E0-EF: R5224-R5239. -/
def fdRowsE : List Instr := [
  .fdE0_RET_PO, .fdE1_POP_IY, .fdE2_JP_PO_nn, .fdE3_EX_mSP_IY,
  .fdE4_CALL_PO_nn, .fdE5_PUSH_IY, .fdE6_AND_n, .fdE7_RST_20H,
  .fdE8_RET_PE, .fdE9_JP_mIY, .fdEA_JP_PE_nn, .fdEB_EX_DE_HL,
  .fdEC_CALL_PE_nn, .fdED_PLACEHOLDER, .fdEE_XOR_n, .fdEF_RST_28H]

/-- FD table (index register IY), indices F0-FF: R5240-R5255. -/
def fdRowsF : List Instr := [
  .fdF0_RET_P, .fdF1_POP_AF, .fdF2_JP_P_nn, .fdF3_DI,
  .fdF4_CALL_P_nn, .fdF5_PUSH_AF, .fdF6_OR_n, .fdF7_RST_30H,
  .fdF8_RET_M, .fdF9_LD_SP_IY, .fdFA_JP_M_nn, .fdFB_EI,
  .fdFC_CALL_M_nn, .fdFD_PLACEHOLDER, .fdFE_CP_n, .fdFF_RST_38H]

/-- The FD table (index register IY), one list for each high digit of the index. -/
def fdRows : List (List Instr) := [
  fdRows0, fdRows1, fdRows2, fdRows3, fdRows4, fdRows5, fdRows6, fdRows7,
  fdRows8, fdRows9, fdRowsA, fdRowsB, fdRowsC, fdRowsD, fdRowsE, fdRowsF]

/-- DD CB displaced table, indices 00-0F: R6000-R6015. -/
def ddcbRows0 : List Instr := [
  .ddcb00_RLC_mIXd_B, .ddcb01_RLC_mIXd_C, .ddcb02_RLC_mIXd_D, .ddcb03_RLC_mIXd_E,
  .ddcb04_RLC_mIXd_H, .ddcb05_RLC_mIXd_L, .ddcb06_RLC_mIXd, .ddcb07_RLC_mIXd_A,
  .ddcb08_RRC_mIXd_B, .ddcb09_RRC_mIXd_C, .ddcb0A_RRC_mIXd_D, .ddcb0B_RRC_mIXd_E,
  .ddcb0C_RRC_mIXd_H, .ddcb0D_RRC_mIXd_L, .ddcb0E_RRC_mIXd, .ddcb0F_RRC_mIXd_A]

/-- DD CB displaced table, indices 10-1F: R6016-R6031. -/
def ddcbRows1 : List Instr := [
  .ddcb10_RL_mIXd_B, .ddcb11_RL_mIXd_C, .ddcb12_RL_mIXd_D, .ddcb13_RL_mIXd_E,
  .ddcb14_RL_mIXd_H, .ddcb15_RL_mIXd_L, .ddcb16_RL_mIXd, .ddcb17_RL_mIXd_A,
  .ddcb18_RR_mIXd_B, .ddcb19_RR_mIXd_C, .ddcb1A_RR_mIXd_D, .ddcb1B_RR_mIXd_E,
  .ddcb1C_RR_mIXd_H, .ddcb1D_RR_mIXd_L, .ddcb1E_RR_mIXd, .ddcb1F_RR_mIXd_A]

/-- DD CB displaced table, indices 20-2F: R6032-R6047. -/
def ddcbRows2 : List Instr := [
  .ddcb20_SLA_mIXd_B, .ddcb21_SLA_mIXd_C, .ddcb22_SLA_mIXd_D, .ddcb23_SLA_mIXd_E,
  .ddcb24_SLA_mIXd_H, .ddcb25_SLA_mIXd_L, .ddcb26_SLA_mIXd, .ddcb27_SLA_mIXd_A,
  .ddcb28_SRA_mIXd_B, .ddcb29_SRA_mIXd_C, .ddcb2A_SRA_mIXd_D, .ddcb2B_SRA_mIXd_E,
  .ddcb2C_SRA_mIXd_H, .ddcb2D_SRA_mIXd_L, .ddcb2E_SRA_mIXd, .ddcb2F_SRA_mIXd_A]

/-- DD CB displaced table, indices 30-3F: R6048-R6063. -/
def ddcbRows3 : List Instr := [
  .ddcb30_SLL_mIXd_B, .ddcb31_SLL_mIXd_C, .ddcb32_SLL_mIXd_D, .ddcb33_SLL_mIXd_E,
  .ddcb34_SLL_mIXd_H, .ddcb35_SLL_mIXd_L, .ddcb36_SLL_mIXd, .ddcb37_SLL_mIXd_A,
  .ddcb38_SRL_mIXd_B, .ddcb39_SRL_mIXd_C, .ddcb3A_SRL_mIXd_D, .ddcb3B_SRL_mIXd_E,
  .ddcb3C_SRL_mIXd_H, .ddcb3D_SRL_mIXd_L, .ddcb3E_SRL_mIXd, .ddcb3F_SRL_mIXd_A]

/-- DD CB displaced table, indices 40-4F: R6064-R6079. -/
def ddcbRows4 : List Instr := [
  .ddcb40_BIT_0_mIXd, .ddcb41_BIT_0_mIXd, .ddcb42_BIT_0_mIXd, .ddcb43_BIT_0_mIXd,
  .ddcb44_BIT_0_mIXd, .ddcb45_BIT_0_mIXd, .ddcb46_BIT_0_mIXd, .ddcb47_BIT_0_mIXd,
  .ddcb48_BIT_1_mIXd, .ddcb49_BIT_1_mIXd, .ddcb4A_BIT_1_mIXd, .ddcb4B_BIT_1_mIXd,
  .ddcb4C_BIT_1_mIXd, .ddcb4D_BIT_1_mIXd, .ddcb4E_BIT_1_mIXd, .ddcb4F_BIT_1_mIXd]

/-- DD CB displaced table, indices 50-5F: R6080-R6095. -/
def ddcbRows5 : List Instr := [
  .ddcb50_BIT_2_mIXd, .ddcb51_BIT_2_mIXd, .ddcb52_BIT_2_mIXd, .ddcb53_BIT_2_mIXd,
  .ddcb54_BIT_2_mIXd, .ddcb55_BIT_2_mIXd, .ddcb56_BIT_2_mIXd, .ddcb57_BIT_2_mIXd,
  .ddcb58_BIT_3_mIXd, .ddcb59_BIT_3_mIXd, .ddcb5A_BIT_3_mIXd, .ddcb5B_BIT_3_mIXd,
  .ddcb5C_BIT_3_mIXd, .ddcb5D_BIT_3_mIXd, .ddcb5E_BIT_3_mIXd, .ddcb5F_BIT_3_mIXd]

/-- DD CB displaced table, indices 60-6F: R6096-R6111. -/
def ddcbRows6 : List Instr := [
  .ddcb60_BIT_4_mIXd, .ddcb61_BIT_4_mIXd, .ddcb62_BIT_4_mIXd, .ddcb63_BIT_4_mIXd,
  .ddcb64_BIT_4_mIXd, .ddcb65_BIT_4_mIXd, .ddcb66_BIT_4_mIXd, .ddcb67_BIT_4_mIXd,
  .ddcb68_BIT_5_mIXd, .ddcb69_BIT_5_mIXd, .ddcb6A_BIT_5_mIXd, .ddcb6B_BIT_5_mIXd,
  .ddcb6C_BIT_5_mIXd, .ddcb6D_BIT_5_mIXd, .ddcb6E_BIT_5_mIXd, .ddcb6F_BIT_5_mIXd]

/-- DD CB displaced table, indices 70-7F: R6112-R6127. -/
def ddcbRows7 : List Instr := [
  .ddcb70_BIT_6_mIXd, .ddcb71_BIT_6_mIXd, .ddcb72_BIT_6_mIXd, .ddcb73_BIT_6_mIXd,
  .ddcb74_BIT_6_mIXd, .ddcb75_BIT_6_mIXd, .ddcb76_BIT_6_mIXd, .ddcb77_BIT_6_mIXd,
  .ddcb78_BIT_7_mIXd, .ddcb79_BIT_7_mIXd, .ddcb7A_BIT_7_mIXd, .ddcb7B_BIT_7_mIXd,
  .ddcb7C_BIT_7_mIXd, .ddcb7D_BIT_7_mIXd, .ddcb7E_BIT_7_mIXd, .ddcb7F_BIT_7_mIXd]

/-- DD CB displaced table, indices 80-8F: R6128-R6143. -/
def ddcbRows8 : List Instr := [
  .ddcb80_RES_0_mIXd_B, .ddcb81_RES_0_mIXd_C, .ddcb82_RES_0_mIXd_D, .ddcb83_RES_0_mIXd_E,
  .ddcb84_RES_0_mIXd_H, .ddcb85_RES_0_mIXd_L, .ddcb86_RES_0_mIXd, .ddcb87_RES_0_mIXd_A,
  .ddcb88_RES_1_mIXd_B, .ddcb89_RES_1_mIXd_C, .ddcb8A_RES_1_mIXd_D, .ddcb8B_RES_1_mIXd_E,
  .ddcb8C_RES_1_mIXd_H, .ddcb8D_RES_1_mIXd_L, .ddcb8E_RES_1_mIXd, .ddcb8F_RES_1_mIXd_A]

/-- DD CB displaced table, indices 90-9F: R6144-R6159. -/
def ddcbRows9 : List Instr := [
  .ddcb90_RES_2_mIXd_B, .ddcb91_RES_2_mIXd_C, .ddcb92_RES_2_mIXd_D, .ddcb93_RES_2_mIXd_E,
  .ddcb94_RES_2_mIXd_H, .ddcb95_RES_2_mIXd_L, .ddcb96_RES_2_mIXd, .ddcb97_RES_2_mIXd_A,
  .ddcb98_RES_3_mIXd_B, .ddcb99_RES_3_mIXd_C, .ddcb9A_RES_3_mIXd_D, .ddcb9B_RES_3_mIXd_E,
  .ddcb9C_RES_3_mIXd_H, .ddcb9D_RES_3_mIXd_L, .ddcb9E_RES_3_mIXd, .ddcb9F_RES_3_mIXd_A]

/-- DD CB displaced table, indices A0-AF: R6160-R6175. -/
def ddcbRowsA : List Instr := [
  .ddcbA0_RES_4_mIXd_B, .ddcbA1_RES_4_mIXd_C, .ddcbA2_RES_4_mIXd_D, .ddcbA3_RES_4_mIXd_E,
  .ddcbA4_RES_4_mIXd_H, .ddcbA5_RES_4_mIXd_L, .ddcbA6_RES_4_mIXd, .ddcbA7_RES_4_mIXd_A,
  .ddcbA8_RES_5_mIXd_B, .ddcbA9_RES_5_mIXd_C, .ddcbAA_RES_5_mIXd_D, .ddcbAB_RES_5_mIXd_E,
  .ddcbAC_RES_5_mIXd_H, .ddcbAD_RES_5_mIXd_L, .ddcbAE_RES_5_mIXd, .ddcbAF_RES_5_mIXd_A]

/-- DD CB displaced table, indices B0-BF: R6176-R6191. -/
def ddcbRowsB : List Instr := [
  .ddcbB0_RES_6_mIXd_B, .ddcbB1_RES_6_mIXd_C, .ddcbB2_RES_6_mIXd_D, .ddcbB3_RES_6_mIXd_E,
  .ddcbB4_RES_6_mIXd_H, .ddcbB5_RES_6_mIXd_L, .ddcbB6_RES_6_mIXd, .ddcbB7_RES_6_mIXd_A,
  .ddcbB8_RES_7_mIXd_B, .ddcbB9_RES_7_mIXd_C, .ddcbBA_RES_7_mIXd_D, .ddcbBB_RES_7_mIXd_E,
  .ddcbBC_RES_7_mIXd_H, .ddcbBD_RES_7_mIXd_L, .ddcbBE_RES_7_mIXd, .ddcbBF_RES_7_mIXd_A]

/-- DD CB displaced table, indices C0-CF: R6192-R6207. -/
def ddcbRowsC : List Instr := [
  .ddcbC0_SET_0_mIXd_B, .ddcbC1_SET_0_mIXd_C, .ddcbC2_SET_0_mIXd_D, .ddcbC3_SET_0_mIXd_E,
  .ddcbC4_SET_0_mIXd_H, .ddcbC5_SET_0_mIXd_L, .ddcbC6_SET_0_mIXd, .ddcbC7_SET_0_mIXd_A,
  .ddcbC8_SET_1_mIXd_B, .ddcbC9_SET_1_mIXd_C, .ddcbCA_SET_1_mIXd_D, .ddcbCB_SET_1_mIXd_E,
  .ddcbCC_SET_1_mIXd_H, .ddcbCD_SET_1_mIXd_L, .ddcbCE_SET_1_mIXd, .ddcbCF_SET_1_mIXd_A]

/-- DD CB displaced table, indices D0-DF: R6208-R6223. -/
def ddcbRowsD : List Instr := [
  .ddcbD0_SET_2_mIXd_B, .ddcbD1_SET_2_mIXd_C, .ddcbD2_SET_2_mIXd_D, .ddcbD3_SET_2_mIXd_E,
  .ddcbD4_SET_2_mIXd_H, .ddcbD5_SET_2_mIXd_L, .ddcbD6_SET_2_mIXd, .ddcbD7_SET_2_mIXd_A,
  .ddcbD8_SET_3_mIXd_B, .ddcbD9_SET_3_mIXd_C, .ddcbDA_SET_3_mIXd_D, .ddcbDB_SET_3_mIXd_E,
  .ddcbDC_SET_3_mIXd_H, .ddcbDD_SET_3_mIXd_L, .ddcbDE_SET_3_mIXd, .ddcbDF_SET_3_mIXd_A]

/-- DD CB displaced table, indices E0-EF: R6224-R6239. -/
def ddcbRowsE : List Instr := [
  .ddcbE0_SET_4_mIXd_B, .ddcbE1_SET_4_mIXd_C, .ddcbE2_SET_4_mIXd_D, .ddcbE3_SET_4_mIXd_E,
  .ddcbE4_SET_4_mIXd_H, .ddcbE5_SET_4_mIXd_L, .ddcbE6_SET_4_mIXd, .ddcbE7_SET_4_mIXd_A,
  .ddcbE8_SET_5_mIXd_B, .ddcbE9_SET_5_mIXd_C, .ddcbEA_SET_5_mIXd_D, .ddcbEB_SET_5_mIXd_E,
  .ddcbEC_SET_5_mIXd_H, .ddcbED_SET_5_mIXd_L, .ddcbEE_SET_5_mIXd, .ddcbEF_SET_5_mIXd_A]

/-- DD CB displaced table, indices F0-FF: R6240-R6255. -/
def ddcbRowsF : List Instr := [
  .ddcbF0_SET_6_mIXd_B, .ddcbF1_SET_6_mIXd_C, .ddcbF2_SET_6_mIXd_D, .ddcbF3_SET_6_mIXd_E,
  .ddcbF4_SET_6_mIXd_H, .ddcbF5_SET_6_mIXd_L, .ddcbF6_SET_6_mIXd, .ddcbF7_SET_6_mIXd_A,
  .ddcbF8_SET_7_mIXd_B, .ddcbF9_SET_7_mIXd_C, .ddcbFA_SET_7_mIXd_D, .ddcbFB_SET_7_mIXd_E,
  .ddcbFC_SET_7_mIXd_H, .ddcbFD_SET_7_mIXd_L, .ddcbFE_SET_7_mIXd, .ddcbFF_SET_7_mIXd_A]

/-- The DD CB displaced table, one list for each high digit of the index. -/
def ddcbRows : List (List Instr) := [
  ddcbRows0, ddcbRows1, ddcbRows2, ddcbRows3, ddcbRows4, ddcbRows5, ddcbRows6, ddcbRows7,
  ddcbRows8, ddcbRows9, ddcbRowsA, ddcbRowsB, ddcbRowsC, ddcbRowsD, ddcbRowsE, ddcbRowsF]

/-- FD CB displaced table, indices 00-0F: R7000-R7015. -/
def fdcbRows0 : List Instr := [
  .fdcb00_RLC_mIYd_B, .fdcb01_RLC_mIYd_C, .fdcb02_RLC_mIYd_D, .fdcb03_RLC_mIYd_E,
  .fdcb04_RLC_mIYd_H, .fdcb05_RLC_mIYd_L, .fdcb06_RLC_mIYd, .fdcb07_RLC_mIYd_A,
  .fdcb08_RRC_mIYd_B, .fdcb09_RRC_mIYd_C, .fdcb0A_RRC_mIYd_D, .fdcb0B_RRC_mIYd_E,
  .fdcb0C_RRC_mIYd_H, .fdcb0D_RRC_mIYd_L, .fdcb0E_RRC_mIYd, .fdcb0F_RRC_mIYd_A]

/-- FD CB displaced table, indices 10-1F: R7016-R7031. -/
def fdcbRows1 : List Instr := [
  .fdcb10_RL_mIYd_B, .fdcb11_RL_mIYd_C, .fdcb12_RL_mIYd_D, .fdcb13_RL_mIYd_E,
  .fdcb14_RL_mIYd_H, .fdcb15_RL_mIYd_L, .fdcb16_RL_mIYd, .fdcb17_RL_mIYd_A,
  .fdcb18_RR_mIYd_B, .fdcb19_RR_mIYd_C, .fdcb1A_RR_mIYd_D, .fdcb1B_RR_mIYd_E,
  .fdcb1C_RR_mIYd_H, .fdcb1D_RR_mIYd_L, .fdcb1E_RR_mIYd, .fdcb1F_RR_mIYd_A]

/-- FD CB displaced table, indices 20-2F: R7032-R7047. -/
def fdcbRows2 : List Instr := [
  .fdcb20_SLA_mIYd_B, .fdcb21_SLA_mIYd_C, .fdcb22_SLA_mIYd_D, .fdcb23_SLA_mIYd_E,
  .fdcb24_SLA_mIYd_H, .fdcb25_SLA_mIYd_L, .fdcb26_SLA_mIYd, .fdcb27_SLA_mIYd_A,
  .fdcb28_SRA_mIYd_B, .fdcb29_SRA_mIYd_C, .fdcb2A_SRA_mIYd_D, .fdcb2B_SRA_mIYd_E,
  .fdcb2C_SRA_mIYd_H, .fdcb2D_SRA_mIYd_L, .fdcb2E_SRA_mIYd, .fdcb2F_SRA_mIYd_A]

/-- FD CB displaced table, indices 30-3F: R7048-R7063. -/
def fdcbRows3 : List Instr := [
  .fdcb30_SLL_mIYd_B, .fdcb31_SLL_mIYd_C, .fdcb32_SLL_mIYd_D, .fdcb33_SLL_mIYd_E,
  .fdcb34_SLL_mIYd_H, .fdcb35_SLL_mIYd_L, .fdcb36_SLL_mIYd, .fdcb37_SLL_mIYd_A,
  .fdcb38_SRL_mIYd_B, .fdcb39_SRL_mIYd_C, .fdcb3A_SRL_mIYd_D, .fdcb3B_SRL_mIYd_E,
  .fdcb3C_SRL_mIYd_H, .fdcb3D_SRL_mIYd_L, .fdcb3E_SRL_mIYd, .fdcb3F_SRL_mIYd_A]

/-- FD CB displaced table, indices 40-4F: R7064-R7079. -/
def fdcbRows4 : List Instr := [
  .fdcb40_BIT_0_mIYd, .fdcb41_BIT_0_mIYd, .fdcb42_BIT_0_mIYd, .fdcb43_BIT_0_mIYd,
  .fdcb44_BIT_0_mIYd, .fdcb45_BIT_0_mIYd, .fdcb46_BIT_0_mIYd, .fdcb47_BIT_0_mIYd,
  .fdcb48_BIT_1_mIYd, .fdcb49_BIT_1_mIYd, .fdcb4A_BIT_1_mIYd, .fdcb4B_BIT_1_mIYd,
  .fdcb4C_BIT_1_mIYd, .fdcb4D_BIT_1_mIYd, .fdcb4E_BIT_1_mIYd, .fdcb4F_BIT_1_mIYd]

/-- FD CB displaced table, indices 50-5F: R7080-R7095. -/
def fdcbRows5 : List Instr := [
  .fdcb50_BIT_2_mIYd, .fdcb51_BIT_2_mIYd, .fdcb52_BIT_2_mIYd, .fdcb53_BIT_2_mIYd,
  .fdcb54_BIT_2_mIYd, .fdcb55_BIT_2_mIYd, .fdcb56_BIT_2_mIYd, .fdcb57_BIT_2_mIYd,
  .fdcb58_BIT_3_mIYd, .fdcb59_BIT_3_mIYd, .fdcb5A_BIT_3_mIYd, .fdcb5B_BIT_3_mIYd,
  .fdcb5C_BIT_3_mIYd, .fdcb5D_BIT_3_mIYd, .fdcb5E_BIT_3_mIYd, .fdcb5F_BIT_3_mIYd]

/-- FD CB displaced table, indices 60-6F: R7096-R7111. -/
def fdcbRows6 : List Instr := [
  .fdcb60_BIT_4_mIYd, .fdcb61_BIT_4_mIYd, .fdcb62_BIT_4_mIYd, .fdcb63_BIT_4_mIYd,
  .fdcb64_BIT_4_mIYd, .fdcb65_BIT_4_mIYd, .fdcb66_BIT_4_mIYd, .fdcb67_BIT_4_mIYd,
  .fdcb68_BIT_5_mIYd, .fdcb69_BIT_5_mIYd, .fdcb6A_BIT_5_mIYd, .fdcb6B_BIT_5_mIYd,
  .fdcb6C_BIT_5_mIYd, .fdcb6D_BIT_5_mIYd, .fdcb6E_BIT_5_mIYd, .fdcb6F_BIT_5_mIYd]

/-- FD CB displaced table, indices 70-7F: R7112-R7127. -/
def fdcbRows7 : List Instr := [
  .fdcb70_BIT_6_mIYd, .fdcb71_BIT_6_mIYd, .fdcb72_BIT_6_mIYd, .fdcb73_BIT_6_mIYd,
  .fdcb74_BIT_6_mIYd, .fdcb75_BIT_6_mIYd, .fdcb76_BIT_6_mIYd, .fdcb77_BIT_6_mIYd,
  .fdcb78_BIT_7_mIYd, .fdcb79_BIT_7_mIYd, .fdcb7A_BIT_7_mIYd, .fdcb7B_BIT_7_mIYd,
  .fdcb7C_BIT_7_mIYd, .fdcb7D_BIT_7_mIYd, .fdcb7E_BIT_7_mIYd, .fdcb7F_BIT_7_mIYd]

/-- FD CB displaced table, indices 80-8F: R7128-R7143. -/
def fdcbRows8 : List Instr := [
  .fdcb80_RES_0_mIYd_B, .fdcb81_RES_0_mIYd_C, .fdcb82_RES_0_mIYd_D, .fdcb83_RES_0_mIYd_E,
  .fdcb84_RES_0_mIYd_H, .fdcb85_RES_0_mIYd_L, .fdcb86_RES_0_mIYd, .fdcb87_RES_0_mIYd_A,
  .fdcb88_RES_1_mIYd_B, .fdcb89_RES_1_mIYd_C, .fdcb8A_RES_1_mIYd_D, .fdcb8B_RES_1_mIYd_E,
  .fdcb8C_RES_1_mIYd_H, .fdcb8D_RES_1_mIYd_L, .fdcb8E_RES_1_mIYd, .fdcb8F_RES_1_mIYd_A]

/-- FD CB displaced table, indices 90-9F: R7144-R7159. -/
def fdcbRows9 : List Instr := [
  .fdcb90_RES_2_mIYd_B, .fdcb91_RES_2_mIYd_C, .fdcb92_RES_2_mIYd_D, .fdcb93_RES_2_mIYd_E,
  .fdcb94_RES_2_mIYd_H, .fdcb95_RES_2_mIYd_L, .fdcb96_RES_2_mIYd, .fdcb97_RES_2_mIYd_A,
  .fdcb98_RES_3_mIYd_B, .fdcb99_RES_3_mIYd_C, .fdcb9A_RES_3_mIYd_D, .fdcb9B_RES_3_mIYd_E,
  .fdcb9C_RES_3_mIYd_H, .fdcb9D_RES_3_mIYd_L, .fdcb9E_RES_3_mIYd, .fdcb9F_RES_3_mIYd_A]

/-- FD CB displaced table, indices A0-AF: R7160-R7175. -/
def fdcbRowsA : List Instr := [
  .fdcbA0_RES_4_mIYd_B, .fdcbA1_RES_4_mIYd_C, .fdcbA2_RES_4_mIYd_D, .fdcbA3_RES_4_mIYd_E,
  .fdcbA4_RES_4_mIYd_H, .fdcbA5_RES_4_mIYd_L, .fdcbA6_RES_4_mIYd, .fdcbA7_RES_4_mIYd_A,
  .fdcbA8_RES_5_mIYd_B, .fdcbA9_RES_5_mIYd_C, .fdcbAA_RES_5_mIYd_D, .fdcbAB_RES_5_mIYd_E,
  .fdcbAC_RES_5_mIYd_H, .fdcbAD_RES_5_mIYd_L, .fdcbAE_RES_5_mIYd, .fdcbAF_RES_5_mIYd_A]

/-- FD CB displaced table, indices B0-BF: R7176-R7191. -/
def fdcbRowsB : List Instr := [
  .fdcbB0_RES_6_mIYd_B, .fdcbB1_RES_6_mIYd_C, .fdcbB2_RES_6_mIYd_D, .fdcbB3_RES_6_mIYd_E,
  .fdcbB4_RES_6_mIYd_H, .fdcbB5_RES_6_mIYd_L, .fdcbB6_RES_6_mIYd, .fdcbB7_RES_6_mIYd_A,
  .fdcbB8_RES_7_mIYd_B, .fdcbB9_RES_7_mIYd_C, .fdcbBA_RES_7_mIYd_D, .fdcbBB_RES_7_mIYd_E,
  .fdcbBC_RES_7_mIYd_H, .fdcbBD_RES_7_mIYd_L, .fdcbBE_RES_7_mIYd, .fdcbBF_RES_7_mIYd_A]

/-- FD CB displaced table, indices C0-CF: R7192-R7207. -/
def fdcbRowsC : List Instr := [
  .fdcbC0_SET_0_mIYd_B, .fdcbC1_SET_0_mIYd_C, .fdcbC2_SET_0_mIYd_D, .fdcbC3_SET_0_mIYd_E,
  .fdcbC4_SET_0_mIYd_H, .fdcbC5_SET_0_mIYd_L, .fdcbC6_SET_0_mIYd, .fdcbC7_SET_0_mIYd_A,
  .fdcbC8_SET_1_mIYd_B, .fdcbC9_SET_1_mIYd_C, .fdcbCA_SET_1_mIYd_D, .fdcbCB_SET_1_mIYd_E,
  .fdcbCC_SET_1_mIYd_H, .fdcbCD_SET_1_mIYd_L, .fdcbCE_SET_1_mIYd, .fdcbCF_SET_1_mIYd_A]

/-- FD CB displaced table, indices D0-DF: R7208-R7223. -/
def fdcbRowsD : List Instr := [
  .fdcbD0_SET_2_mIYd_B, .fdcbD1_SET_2_mIYd_C, .fdcbD2_SET_2_mIYd_D, .fdcbD3_SET_2_mIYd_E,
  .fdcbD4_SET_2_mIYd_H, .fdcbD5_SET_2_mIYd_L, .fdcbD6_SET_2_mIYd, .fdcbD7_SET_2_mIYd_A,
  .fdcbD8_SET_3_mIYd_B, .fdcbD9_SET_3_mIYd_C, .fdcbDA_SET_3_mIYd_D, .fdcbDB_SET_3_mIYd_E,
  .fdcbDC_SET_3_mIYd_H, .fdcbDD_SET_3_mIYd_L, .fdcbDE_SET_3_mIYd, .fdcbDF_SET_3_mIYd_A]

/-- FD CB displaced table, indices E0-EF: R7224-R7239. -/
def fdcbRowsE : List Instr := [
  .fdcbE0_SET_4_mIYd_B, .fdcbE1_SET_4_mIYd_C, .fdcbE2_SET_4_mIYd_D, .fdcbE3_SET_4_mIYd_E,
  .fdcbE4_SET_4_mIYd_H, .fdcbE5_SET_4_mIYd_L, .fdcbE6_SET_4_mIYd, .fdcbE7_SET_4_mIYd_A,
  .fdcbE8_SET_5_mIYd_B, .fdcbE9_SET_5_mIYd_C, .fdcbEA_SET_5_mIYd_D, .fdcbEB_SET_5_mIYd_E,
  .fdcbEC_SET_5_mIYd_H, .fdcbED_SET_5_mIYd_L, .fdcbEE_SET_5_mIYd, .fdcbEF_SET_5_mIYd_A]

/-- FD CB displaced table, indices F0-FF: R7240-R7255. -/
def fdcbRowsF : List Instr := [
  .fdcbF0_SET_6_mIYd_B, .fdcbF1_SET_6_mIYd_C, .fdcbF2_SET_6_mIYd_D, .fdcbF3_SET_6_mIYd_E,
  .fdcbF4_SET_6_mIYd_H, .fdcbF5_SET_6_mIYd_L, .fdcbF6_SET_6_mIYd, .fdcbF7_SET_6_mIYd_A,
  .fdcbF8_SET_7_mIYd_B, .fdcbF9_SET_7_mIYd_C, .fdcbFA_SET_7_mIYd_D, .fdcbFB_SET_7_mIYd_E,
  .fdcbFC_SET_7_mIYd_H, .fdcbFD_SET_7_mIYd_L, .fdcbFE_SET_7_mIYd, .fdcbFF_SET_7_mIYd_A]

/-- The FD CB displaced table, one list for each high digit of the index. -/
def fdcbRows : List (List Instr) := [
  fdcbRows0, fdcbRows1, fdcbRows2, fdcbRows3, fdcbRows4, fdcbRows5, fdcbRows6, fdcbRows7,
  fdcbRows8, fdcbRows9, fdcbRowsA, fdcbRowsB, fdcbRowsC, fdcbRowsD, fdcbRowsE, fdcbRowsF]

/-- The instructions of a table (10_state.md R31). -/
def tableRows : TableId → List (List Instr)
  | .primary => primaryRows
  | .cb => cbRows
  | .ed => edRows
  | .dd => ddRows
  | .fd => fdRows
  | .ddcb => ddcbRows
  | .fdcb => fdcbRows

/-- The instruction at an index byte of a table. `none` would be an absent entry, which no table has (30_encoding.md
R95). -/
def rowAt (t : TableId) (b : Byte) : Option Instr :=
  (tableRows t)[b.toNat / 16]?.bind fun r => r[b.toNat % 16]?

/-- What the decoder makes of the bytes at an instruction start: a whole instruction with its operand and the bytes
after it; an instruction whose bytes the stream cuts short, with the reason its meaning stops for; the end of the
stream; or `noEntry`, an absent table entry, which no bytes reach since the tables are complete. -/
inductive Decoded where
  | instr (i : Instr) (o : Operand) (rest : List Byte)
  | truncated (i : Instr) (r : StopReason)
  | endOfStream
  | noEntry
deriving DecidableEq

/-- The operand after the opcode bytes of an instruction (30_encoding.md R87), or its truncation (40_decoder.md
R138). -/
def decodeOperand (i : Instr) : List Byte → Decoded
  | [] =>
    match i.entry.form with
    | .none => .instr i .none []
    | .byte => .truncated i .truncatedOperand
    | .word => .truncated i .truncatedOperand
  | [b] =>
    match i.entry.form with
    | .none => .instr i .none [b]
    | .byte => .instr i (.u8 b) []
    | .word => .truncated i .truncatedOperand
  | b :: c :: rest =>
    match i.entry.form with
    | .none => .instr i .none (b :: c :: rest)
    | .byte => .instr i (.u8 b) (c :: rest)
    | .word => .instr i (.u16 (word16 b c)) rest

/-- The bytes after a displaced marker: displacement, then third-level index (40_decoder.md R136). -/
def decodeDisplaced (marker : Instr) (t3 : TableId) : List Byte → Decoded
  | d :: o :: rest =>
    match rowAt t3 o with
    | some i => .instr i (.u8 d) rest
    | none => .noEntry
  | _ => .truncated marker .truncatedOperand

/-- The bytes after a prefix byte: the selector indexes the secondary table (40_decoder.md R134, R135). -/
def decodeSelector (marker : Instr) (t : TableId) : List Byte → Decoded
  | [] => .truncated marker .truncatedPrefix
  | sel :: rest =>
    match rowAt t sel with
    | none => .noEntry
    | some i =>
      match i.displacedTable with
      | some t3 => decodeDisplaced i t3 rest
      | none => decodeOperand i rest

/-- The decoder: the first byte indexes the primary table, a marker dispatches again (30_encoding.md R82, R90). -/
def decode : List Byte → Decoded
  | [] => .endOfStream
  | op :: rest =>
    match rowAt .primary op with
    | none => .noEntry
    | some i =>
      match i.markerTable with
      | some t => decodeSelector i t rest
      | none => decodeOperand i rest

/-- The longest instruction has 4 bytes (30_encoding.md R80). -/
def longestInstruction : Nat := 4

/-- The bytes of a word of spec/opcode_table.json, in stream order: byte 0 is the most significant (30_encoding.md
R102), padded with zeros to the longest instruction. DEDUCED (safe), log 8. -/
def tableWordBytes (nbits w : Nat) : List Byte :=
  let k := nbits / 8
  (List.range k).map (fun j => BitVec.ofNat 8 (w / 256 ^ (k - 1 - j))) ++
    List.replicate (longestInstruction - k) 0

/-- The instruction the decoder reads from a word of spec/opcode_table.json. The word of a dispatch row gives the
instruction its zero bytes select (30_encoding.md R102); log 7. -/
def decodeTableWord (nbits w : Nat) : Option Instr :=
  match decode (tableWordBytes nbits w) with
  | .instr i _ _ => some i
  | .truncated _ _ => none
  | .endOfStream => none
  | .noEntry => none

end Sys2Proof
end

