-- ==== Sys2Proof/Machine/State.lean ====
section
/-! DEFINITION. The state of one decoder instance (10_state.md R20), the parameters of its step that the fixed interface keeps beside it, the ways a step can fail to answer a next state, and reset. -/

namespace Sys2Proof.Machine

/-- The run state (10_state.md R27). -/
inductive RunState where
  | running
  | stopped (reason : StopReason)
deriving DecidableEq, Repr

/-- One emitted line (10_state.md R29). -/
structure DecodedLine where
  address : Word
  mnemonic : String
  operand : Operand
deriving DecidableEq, Repr

/-- The decoder's state. `off`, `addr`, `run` and `out` are the record of 10_state.md R20.
`stream`, `tables` and `placeholder` are the parameters `S`, `TABLES` and `PLACEHOLDER_MNEMONIC` of
00_scope.md R9: no step writes them. DESIGN CHOICE (safe), log 1 and log 2. -/
structure State where
  stream : List Byte
  tables : TableChoice
  placeholder : String
  off : Nat
  addr : Word
  run : RunState
  out : List DecodedLine
deriving DecidableEq, Repr

/-- The block raises no exception, trap or fault (60_exceptions.md R200), so no fault exists and nothing
raises one. DEDUCED (safe), log 16. -/
inductive Fault where
deriving DecidableEq, Repr

/-- Why a step has no meaning. -/
inductive Refusal where
  /-- Raised by an arm of `exec` whose instruction has no meaning yet; safe. No arm raises it now. -/
  | notModelled (mnemonic : String)
  /-- Raised by `step`, `boot` and the generic step for a table set that fails 30_encoding.md R97; safe
  (92_eei_decisions.md D17; log 5, log 11). -/
  | illFormedTables
  /-- Raised by `step` in a stopped state: "A `Stopped` state has no step" (40_decoder.md R146); safe (log 4). -/
  | runStopped
deriving DecidableEq, Repr

/-- The three outcomes of a step of this block. -/
abbrev Outcome := Host.Outcome State Fault Refusal

/-- The start of a run on a stream handed over by the host (10_state.md R35; 70_reset_and_hazards.md R300,
R302). -/
def State.start (stream : List Byte) (tables : TableChoice) (placeholder : String) : State where
  stream := stream
  tables := tables
  placeholder := placeholder
  off := 0
  addr := 0
  run := .running
  out := []

/-- Reset with no stream supplied yet, the default table set and the default placeholder text
(10_state.md R35; 92_eei_decisions.md D4, D8). The empty stream is a DESIGN CHOICE (unsafe), log 3. -/
def State.reset : State := State.start [] .standard "NOP"

end Sys2Proof.Machine
end

