-- ==== Sys2Proof/Machine/Operands.lean ====
section
/-! DEFINITION. Reading the stream and assembling operands (20_memory.md R51, R52; 30_encoding.md R87). -/

namespace Sys2Proof.Machine

/-- `N`, the length of the stream (00_scope.md R9). -/
def State.size (s : State) : Nat := s.stream.length

/-- The guarded read: a byte exists exactly at the offsets 0 to N - 1 (20_memory.md R50). -/
def State.read? (s : State) (i : Nat) : Option Byte := s.stream[i]?

/-- `S[i]` where a length check has passed. Beyond the stream it answers 0, which no step reads:
93_implementation_defined.md I13 allows "total with any value". DESIGN CHOICE (safe), log 10. -/
def State.byteAt (s : State) (i : Nat) : Byte := (s.read? i).getD 0

/-- The operand whose first byte is at `j`, for a descriptor of length `L` (30_encoding.md R87;
40_decoder.md R139, R140, R141). -/
def State.operandAt (s : State) (j L : Nat) : Operand :=
  if L = 1 then .none
  else if L = 2 then .u8 (s.byteAt j)
  else .u16 (word16 (s.byteAt j) (s.byteAt (j + 1)))

/-- The stream as address and byte pairs: one cell for each offset, in rising order. -/
def State.cells (s : State) : List Host.Cell :=
  s.stream.zipIdx.map fun c => (c.2, c.1)

/-- The canonical form of a memory of cells: addresses strictly rising. An unlisted address reads as
nothing, so no entry can equal what it reads as. -/
def Memory.wf : List Host.Cell → Bool
  | [] => true
  | [_] => true
  | a :: b :: rest => decide (a.1 < b.1) && Memory.wf (b :: rest)

end Sys2Proof.Machine
end

