-- ==== Sys2Proof/WellFormed.lean ====
section
/-! DEFINITION. The named well-formedness checks WF1-WF7 of a table set (30_encoding.md R97), and the well-formed instructions (30_encoding.md R87, R102). -/

namespace Sys2Proof

/-- The four tables a prefix byte leads to (10_state.md R31). -/
def TableId.isSecondary : TableId → Bool
  | .cb | .ed | .dd | .fd => true
  | .primary | .ddcb | .fdcb => false

/-- The two tables of the displaced form (10_state.md R31, 92_eei_decisions.md D3). -/
def TableId.isThirdLevel : TableId → Bool
  | .ddcb | .fdcb => true
  | .primary | .cb | .ed | .dd | .fd => false

/-- The text of one mnemonic: non-empty, with no line terminator (30_encoding.md R97 WF7), that is without the byte
LF, 0x0A (92_eei_decisions.md D11). DEDUCED (safe), log 12. -/
def mnemonicText (m : String) : Bool :=
  let bytes := m.toByteArray.data.toList
  !bytes.isEmpty && !bytes.contains 0x0A

/-- Lengths 1 to 3 (30_encoding.md R83). -/
def lengthInRange (L : Nat) : Bool := 1 ≤ L && L ≤ 3

/-- WF2, one primary entry. A placeholder is a `Plain` (00_scope.md R12). DEDUCED (safe), log 13. -/
def Descriptor.primaryForm : Descriptor → Bool
  | .plain _ L | .placeholder _ L => lengthInRange L
  | .prefixTo t => t.isSecondary
  | .displacedPrefixTo _ => false

/-- WF4, one secondary entry. -/
def Descriptor.secondaryForm : Descriptor → Bool
  | .plain _ L | .placeholder _ L => lengthInRange L
  | .prefixTo _ => false
  | .displacedPrefixTo t => t.isThirdLevel

/-- WF6, one third-level entry: `Plain(m, 2)` (30_encoding.md R86). -/
def Descriptor.thirdLevelForm : Descriptor → Bool
  | .plain _ L | .placeholder _ L => L == 2
  | .prefixTo _ => false
  | .displacedPrefixTo _ => false

/-- WF7, one entry. -/
def Descriptor.textOk : Descriptor → Bool
  | .plain m _ | .placeholder m _ => mnemonicText m
  | .prefixTo _ | .displacedPrefixTo _ => true

/-- The entries of the four secondary tables, in the order CB, ED, DD, FD. -/
def TableSet.secondaryEntries (T : TableSet) : List Descriptor :=
  T.cb ++ (T.ed ++ (T.dd ++ T.fd))

/-- The seven named checks of 30_encoding.md R97. -/
inductive WfCheck where
  | complete
  | primaryForms
  | prefixOneToOne
  | secondaryForms
  | displacedOneToOne
  | thirdLevelForms
  | mnemonicTexts
deriving DecidableEq, Repr

/-- What each check asks of a table set (30_encoding.md R97, WF1 to WF7 in order). -/
def TableSet.passes (T : TableSet) : WfCheck → Bool
  | .complete =>
      [T.primary, T.cb, T.ed, T.dd, T.fd, T.ddcb, T.fdcb].all fun t => t.length == 256
  | .primaryForms => T.primary.all Descriptor.primaryForm
  | .prefixOneToOne =>
      ([TableId.cb, .ed, .dd, .fd].all fun t => T.primary.count (.prefixTo t) == 1) &&
      ([TableId.ddcb, .fdcb].all fun t =>
        T.primary.count (.prefixTo t) == 0 && T.primary.count (.displacedPrefixTo t) == 0)
  | .secondaryForms => T.secondaryEntries.all Descriptor.secondaryForm
  | .displacedOneToOne =>
      [TableId.ddcb, .fdcb].all fun t => T.secondaryEntries.count (.displacedPrefixTo t) == 1
  | .thirdLevelForms => (T.ddcb ++ T.fdcb).all Descriptor.thirdLevelForm
  | .mnemonicTexts => (T.primary ++ (T.secondaryEntries ++ (T.ddcb ++ T.fdcb))).all Descriptor.textOk

/-- A table set is well formed when all seven checks pass (30_encoding.md R97). -/
def TableSet.wellFormed (T : TableSet) : Bool :=
  [WfCheck.complete, .primaryForms, .prefixOneToOne, .secondaryForms, .displacedOneToOne,
    .thirdLevelForms, .mnemonicTexts].all T.passes

/-- An operand has the shape an encoding carries (30_encoding.md R87). -/
def Operand.fits : Operand → OperandForm → Bool
  | .none, .none => true
  | .u8 _, .byte => true
  | .u16 _, .word => true
  | .none, .byte | .none, .word => false
  | .u8 _, .none | .u8 _, .word => false
  | .u16 _, .none | .u16 _, .byte => false

/-- A well-formed instruction: no dispatch row (30_encoding.md R102), with an operand of the shape its encoding
carries. -/
def Instr.wellFormed (i : Instr) (o : Operand) : Bool :=
  !i.isMarker && o.fits i.entry.form

end Sys2Proof
end

