-- ==== Sys2Proof/Machine/Ops.lean ====
section
/-! DEFINITION. The shared operations: stopping, emitting a line, advancing the cursor, the effect of a table entry, and starting a run. -/

namespace Sys2Proof.Machine

/-- `stop(r)`: "sets `run <- Stopped(r)` and changes nothing else" (40_decoder.md R130). -/
def State.stop (s : State) (r : StopReason) : State := { s with run := .stopped r }

/-- `emit(addr, m, o)`: appends one line with the cursor address (40_decoder.md R142). It cannot fail
(92_eei_decisions.md D20): DESIGN CHOICE (unsafe), log 15. -/
def State.emit (s : State) (m : String) (o : Operand) : State :=
  { s with out := s.out ++ [⟨s.addr, m, o⟩] }

/-- The advance: `off` exactly, `addr` modulo 2^16, by the same count (40_decoder.md R143). -/
def State.advance (s : State) (total : Nat) : State :=
  { s with off := s.off + total, addr := s.addr + BitVec.ofNat 16 total }

/-- The stop conditions of an instruction with `pfx` prefix bytes and `total` bytes, in the order of
60_exceptions.md R203; at most one applies. DEDUCED (safe), log 9. -/
def State.stopCheck (s : State) (pfx total : Nat) : Option StopReason :=
  if s.off ≥ s.size then some .endOfStream
  else if pfx ≠ 0 ∧ s.off + 1 ≥ s.size then some .truncatedPrefix
  else if s.off + total > s.size then some .truncatedOperand
  else none

/-- The effect of an instruction of `total` bytes, `pfx` of them prefix bytes: stop, or emit its line and advance
(40_decoder.md R137, R138, R142, R143). -/
def State.lineEffect (s : State) (pfx total : Nat) (m : String) (o : Operand) : State :=
  match s.stopCheck pfx total with
  | some r => s.stop r
  | none => (s.emit m o).advance total

/-- The effect of a primary entry `Plain(m, L)`: `prefix_bytes = 0` (40_decoder.md R133). -/
def primaryLine (m : String) (L : Nat) (s : State) : Outcome :=
  .next (s.lineEffect 0 L m (s.operandAt (s.off + 1) L))

/-- The effect of an entry `Plain(m, L)` of a secondary table: `prefix_bytes = 1` (40_decoder.md R135). -/
def prefixedLine (m : String) (L : Nat) (s : State) : Outcome :=
  .next (s.lineEffect 1 (L + 1) m (s.operandAt (s.off + 2) L))

/-- The effect of a third-level entry: 4 bytes, operand `U8(d)` with `d` the byte after the two prefix bytes
(40_decoder.md R136; 30_encoding.md R86). -/
def displacedLine (m : String) (s : State) : Outcome :=
  .next (s.lineEffect 2 4 m (.u8 (s.byteAt (s.off + 2))))

/-- The effect of an instruction entry of table `t`. -/
def entryLine (t : TableId) (m : String) (L : Nat) (s : State) : Outcome :=
  match t with
  | .primary => primaryLine m L s
  | .cb | .ed | .dd | .fd => prefixedLine m L s
  | .ddcb | .fdcb => displacedLine m s

/-- Whether the state's table set is accepted (30_encoding.md R97). Of the default set only the open
placeholder text can fail a check. -/
def State.tablesOk (s : State) : Bool :=
  match s.tables with
  | .standard => mnemonicText s.placeholder
  | .replacement T => T.wellFormed

/-- Reset: a new run on the same stream and tables (70_reset_and_hazards.md R300). -/
def State.restart (s : State) : State := State.start s.stream s.tables s.placeholder

/-- Boot: tables, then stream, then reset; an ill-formed table set is refused before any run
(70_reset_and_hazards.md R302; 30_encoding.md R97). -/
def boot (stream : List Byte) (tables : TableChoice) (placeholder : String) : Outcome :=
  let s := State.start stream tables placeholder
  if s.tablesOk then .next s else .refused .illFormedTables

end Sys2Proof.Machine
end

