-- ==== Sys2Proof/Machine/Cb.lean ====
section
/-! DEFINITION. The meanings of the CB table: rules R2000 to R2255 of 42_cb_00-7F.md and 42_cb_80-FF.md, in index order. Each docstring gives the rule, the bytes in stream order and the descriptor. -/

namespace Sys2Proof.Machine

/-- R2000: `CB 00`, `Plain("RLC B", 1)`. -/
def exec_cb00_RLC_B (s : State) : Outcome := prefixedLine "RLC B" 1 s

/-- R2001: `CB 01`, `Plain("RLC C", 1)`. -/
def exec_cb01_RLC_C (s : State) : Outcome := prefixedLine "RLC C" 1 s

/-- R2002: `CB 02`, `Plain("RLC D", 1)`. -/
def exec_cb02_RLC_D (s : State) : Outcome := prefixedLine "RLC D" 1 s

/-- R2003: `CB 03`, `Plain("RLC E", 1)`. -/
def exec_cb03_RLC_E (s : State) : Outcome := prefixedLine "RLC E" 1 s

/-- R2004: `CB 04`, `Plain("RLC H", 1)`. -/
def exec_cb04_RLC_H (s : State) : Outcome := prefixedLine "RLC H" 1 s

/-- R2005: `CB 05`, `Plain("RLC L", 1)`. -/
def exec_cb05_RLC_L (s : State) : Outcome := prefixedLine "RLC L" 1 s

/-- R2006: `CB 06`, `Plain("RLC (HL)", 1)`. -/
def exec_cb06_RLC_mHL (s : State) : Outcome := prefixedLine "RLC (HL)" 1 s

/-- R2007: `CB 07`, `Plain("RLC A", 1)`. -/
def exec_cb07_RLC_A (s : State) : Outcome := prefixedLine "RLC A" 1 s

/-- R2008: `CB 08`, `Plain("RRC B", 1)`. -/
def exec_cb08_RRC_B (s : State) : Outcome := prefixedLine "RRC B" 1 s

/-- R2009: `CB 09`, `Plain("RRC C", 1)`. -/
def exec_cb09_RRC_C (s : State) : Outcome := prefixedLine "RRC C" 1 s

/-- R2010: `CB 0A`, `Plain("RRC D", 1)`. -/
def exec_cb0A_RRC_D (s : State) : Outcome := prefixedLine "RRC D" 1 s

/-- R2011: `CB 0B`, `Plain("RRC E", 1)`. -/
def exec_cb0B_RRC_E (s : State) : Outcome := prefixedLine "RRC E" 1 s

/-- R2012: `CB 0C`, `Plain("RRC H", 1)`. -/
def exec_cb0C_RRC_H (s : State) : Outcome := prefixedLine "RRC H" 1 s

/-- R2013: `CB 0D`, `Plain("RRC L", 1)`. -/
def exec_cb0D_RRC_L (s : State) : Outcome := prefixedLine "RRC L" 1 s

/-- R2014: `CB 0E`, `Plain("RRC (HL)", 1)`. -/
def exec_cb0E_RRC_mHL (s : State) : Outcome := prefixedLine "RRC (HL)" 1 s

/-- R2015: `CB 0F`, `Plain("RRC A", 1)`. -/
def exec_cb0F_RRC_A (s : State) : Outcome := prefixedLine "RRC A" 1 s

/-- R2016: `CB 10`, `Plain("RL B", 1)`. -/
def exec_cb10_RL_B (s : State) : Outcome := prefixedLine "RL B" 1 s

/-- R2017: `CB 11`, `Plain("RL C", 1)`. -/
def exec_cb11_RL_C (s : State) : Outcome := prefixedLine "RL C" 1 s

/-- R2018: `CB 12`, `Plain("RL D", 1)`. -/
def exec_cb12_RL_D (s : State) : Outcome := prefixedLine "RL D" 1 s

/-- R2019: `CB 13`, `Plain("RL E", 1)`. -/
def exec_cb13_RL_E (s : State) : Outcome := prefixedLine "RL E" 1 s

/-- R2020: `CB 14`, `Plain("RL H", 1)`. -/
def exec_cb14_RL_H (s : State) : Outcome := prefixedLine "RL H" 1 s

/-- R2021: `CB 15`, `Plain("RL L", 1)`. -/
def exec_cb15_RL_L (s : State) : Outcome := prefixedLine "RL L" 1 s

/-- R2022: `CB 16`, `Plain("RL (HL)", 1)`. -/
def exec_cb16_RL_mHL (s : State) : Outcome := prefixedLine "RL (HL)" 1 s

/-- R2023: `CB 17`, `Plain("RL A", 1)`. -/
def exec_cb17_RL_A (s : State) : Outcome := prefixedLine "RL A" 1 s

/-- R2024: `CB 18`, `Plain("RR B", 1)`. -/
def exec_cb18_RR_B (s : State) : Outcome := prefixedLine "RR B" 1 s

/-- R2025: `CB 19`, `Plain("RR C", 1)`. -/
def exec_cb19_RR_C (s : State) : Outcome := prefixedLine "RR C" 1 s

/-- R2026: `CB 1A`, `Plain("RR D", 1)`. -/
def exec_cb1A_RR_D (s : State) : Outcome := prefixedLine "RR D" 1 s

/-- R2027: `CB 1B`, `Plain("RR E", 1)`. -/
def exec_cb1B_RR_E (s : State) : Outcome := prefixedLine "RR E" 1 s

/-- R2028: `CB 1C`, `Plain("RR H", 1)`. -/
def exec_cb1C_RR_H (s : State) : Outcome := prefixedLine "RR H" 1 s

/-- R2029: `CB 1D`, `Plain("RR L", 1)`. -/
def exec_cb1D_RR_L (s : State) : Outcome := prefixedLine "RR L" 1 s

/-- R2030: `CB 1E`, `Plain("RR (HL)", 1)`. -/
def exec_cb1E_RR_mHL (s : State) : Outcome := prefixedLine "RR (HL)" 1 s

/-- R2031: `CB 1F`, `Plain("RR A", 1)`. -/
def exec_cb1F_RR_A (s : State) : Outcome := prefixedLine "RR A" 1 s

/-- R2032: `CB 20`, `Plain("SLA B", 1)`. -/
def exec_cb20_SLA_B (s : State) : Outcome := prefixedLine "SLA B" 1 s

/-- R2033: `CB 21`, `Plain("SLA C", 1)`. -/
def exec_cb21_SLA_C (s : State) : Outcome := prefixedLine "SLA C" 1 s

/-- R2034: `CB 22`, `Plain("SLA D", 1)`. -/
def exec_cb22_SLA_D (s : State) : Outcome := prefixedLine "SLA D" 1 s

/-- R2035: `CB 23`, `Plain("SLA E", 1)`. -/
def exec_cb23_SLA_E (s : State) : Outcome := prefixedLine "SLA E" 1 s

/-- R2036: `CB 24`, `Plain("SLA H", 1)`. -/
def exec_cb24_SLA_H (s : State) : Outcome := prefixedLine "SLA H" 1 s

/-- R2037: `CB 25`, `Plain("SLA L", 1)`. -/
def exec_cb25_SLA_L (s : State) : Outcome := prefixedLine "SLA L" 1 s

/-- R2038: `CB 26`, `Plain("SLA (HL)", 1)`. -/
def exec_cb26_SLA_mHL (s : State) : Outcome := prefixedLine "SLA (HL)" 1 s

/-- R2039: `CB 27`, `Plain("SLA A", 1)`. -/
def exec_cb27_SLA_A (s : State) : Outcome := prefixedLine "SLA A" 1 s

/-- R2040: `CB 28`, `Plain("SRA B", 1)`. -/
def exec_cb28_SRA_B (s : State) : Outcome := prefixedLine "SRA B" 1 s

/-- R2041: `CB 29`, `Plain("SRA C", 1)`. -/
def exec_cb29_SRA_C (s : State) : Outcome := prefixedLine "SRA C" 1 s

/-- R2042: `CB 2A`, `Plain("SRA D", 1)`. -/
def exec_cb2A_SRA_D (s : State) : Outcome := prefixedLine "SRA D" 1 s

/-- R2043: `CB 2B`, `Plain("SRA E", 1)`. -/
def exec_cb2B_SRA_E (s : State) : Outcome := prefixedLine "SRA E" 1 s

/-- R2044: `CB 2C`, `Plain("SRA H", 1)`. -/
def exec_cb2C_SRA_H (s : State) : Outcome := prefixedLine "SRA H" 1 s

/-- R2045: `CB 2D`, `Plain("SRA L", 1)`. -/
def exec_cb2D_SRA_L (s : State) : Outcome := prefixedLine "SRA L" 1 s

/-- R2046: `CB 2E`, `Plain("SRA (HL)", 1)`. -/
def exec_cb2E_SRA_mHL (s : State) : Outcome := prefixedLine "SRA (HL)" 1 s

/-- R2047: `CB 2F`, `Plain("SRA A", 1)`. -/
def exec_cb2F_SRA_A (s : State) : Outcome := prefixedLine "SRA A" 1 s

/-- R2048: `CB 30`, `Plain("SLL B", 1)`. -/
def exec_cb30_SLL_B (s : State) : Outcome := prefixedLine "SLL B" 1 s

/-- R2049: `CB 31`, `Plain("SLL C", 1)`. -/
def exec_cb31_SLL_C (s : State) : Outcome := prefixedLine "SLL C" 1 s

/-- R2050: `CB 32`, `Plain("SLL D", 1)`. -/
def exec_cb32_SLL_D (s : State) : Outcome := prefixedLine "SLL D" 1 s

/-- R2051: `CB 33`, `Plain("SLL E", 1)`. -/
def exec_cb33_SLL_E (s : State) : Outcome := prefixedLine "SLL E" 1 s

/-- R2052: `CB 34`, `Plain("SLL H", 1)`. -/
def exec_cb34_SLL_H (s : State) : Outcome := prefixedLine "SLL H" 1 s

/-- R2053: `CB 35`, `Plain("SLL L", 1)`. -/
def exec_cb35_SLL_L (s : State) : Outcome := prefixedLine "SLL L" 1 s

/-- R2054: `CB 36`, `Plain("SLL (HL)", 1)`. -/
def exec_cb36_SLL_mHL (s : State) : Outcome := prefixedLine "SLL (HL)" 1 s

/-- R2055: `CB 37`, `Plain("SLL A", 1)`. -/
def exec_cb37_SLL_A (s : State) : Outcome := prefixedLine "SLL A" 1 s

/-- R2056: `CB 38`, `Plain("SRL B", 1)`. -/
def exec_cb38_SRL_B (s : State) : Outcome := prefixedLine "SRL B" 1 s

/-- R2057: `CB 39`, `Plain("SRL C", 1)`. -/
def exec_cb39_SRL_C (s : State) : Outcome := prefixedLine "SRL C" 1 s

/-- R2058: `CB 3A`, `Plain("SRL D", 1)`. -/
def exec_cb3A_SRL_D (s : State) : Outcome := prefixedLine "SRL D" 1 s

/-- R2059: `CB 3B`, `Plain("SRL E", 1)`. -/
def exec_cb3B_SRL_E (s : State) : Outcome := prefixedLine "SRL E" 1 s

/-- R2060: `CB 3C`, `Plain("SRL H", 1)`. -/
def exec_cb3C_SRL_H (s : State) : Outcome := prefixedLine "SRL H" 1 s

/-- R2061: `CB 3D`, `Plain("SRL L", 1)`. -/
def exec_cb3D_SRL_L (s : State) : Outcome := prefixedLine "SRL L" 1 s

/-- R2062: `CB 3E`, `Plain("SRL (HL)", 1)`. -/
def exec_cb3E_SRL_mHL (s : State) : Outcome := prefixedLine "SRL (HL)" 1 s

/-- R2063: `CB 3F`, `Plain("SRL A", 1)`. -/
def exec_cb3F_SRL_A (s : State) : Outcome := prefixedLine "SRL A" 1 s

/-- R2064: `CB 40`, `Plain("BIT 0,B", 1)`. -/
def exec_cb40_BIT_0_B (s : State) : Outcome := prefixedLine "BIT 0,B" 1 s

/-- R2065: `CB 41`, `Plain("BIT 0,C", 1)`. -/
def exec_cb41_BIT_0_C (s : State) : Outcome := prefixedLine "BIT 0,C" 1 s

/-- R2066: `CB 42`, `Plain("BIT 0,D", 1)`. -/
def exec_cb42_BIT_0_D (s : State) : Outcome := prefixedLine "BIT 0,D" 1 s

/-- R2067: `CB 43`, `Plain("BIT 0,E", 1)`. -/
def exec_cb43_BIT_0_E (s : State) : Outcome := prefixedLine "BIT 0,E" 1 s

/-- R2068: `CB 44`, `Plain("BIT 0,H", 1)`. -/
def exec_cb44_BIT_0_H (s : State) : Outcome := prefixedLine "BIT 0,H" 1 s

/-- R2069: `CB 45`, `Plain("BIT 0,L", 1)`. -/
def exec_cb45_BIT_0_L (s : State) : Outcome := prefixedLine "BIT 0,L" 1 s

/-- R2070: `CB 46`, `Plain("BIT 0,(HL)", 1)`. -/
def exec_cb46_BIT_0_mHL (s : State) : Outcome := prefixedLine "BIT 0,(HL)" 1 s

/-- R2071: `CB 47`, `Plain("BIT 0,A", 1)`. -/
def exec_cb47_BIT_0_A (s : State) : Outcome := prefixedLine "BIT 0,A" 1 s

/-- R2072: `CB 48`, `Plain("BIT 1,B", 1)`. -/
def exec_cb48_BIT_1_B (s : State) : Outcome := prefixedLine "BIT 1,B" 1 s

/-- R2073: `CB 49`, `Plain("BIT 1,C", 1)`. -/
def exec_cb49_BIT_1_C (s : State) : Outcome := prefixedLine "BIT 1,C" 1 s

/-- R2074: `CB 4A`, `Plain("BIT 1,D", 1)`. -/
def exec_cb4A_BIT_1_D (s : State) : Outcome := prefixedLine "BIT 1,D" 1 s

/-- R2075: `CB 4B`, `Plain("BIT 1,E", 1)`. -/
def exec_cb4B_BIT_1_E (s : State) : Outcome := prefixedLine "BIT 1,E" 1 s

/-- R2076: `CB 4C`, `Plain("BIT 1,H", 1)`. -/
def exec_cb4C_BIT_1_H (s : State) : Outcome := prefixedLine "BIT 1,H" 1 s

/-- R2077: `CB 4D`, `Plain("BIT 1,L", 1)`. -/
def exec_cb4D_BIT_1_L (s : State) : Outcome := prefixedLine "BIT 1,L" 1 s

/-- R2078: `CB 4E`, `Plain("BIT 1,(HL)", 1)`. -/
def exec_cb4E_BIT_1_mHL (s : State) : Outcome := prefixedLine "BIT 1,(HL)" 1 s

/-- R2079: `CB 4F`, `Plain("BIT 1,A", 1)`. -/
def exec_cb4F_BIT_1_A (s : State) : Outcome := prefixedLine "BIT 1,A" 1 s

/-- R2080: `CB 50`, `Plain("BIT 2,B", 1)`. -/
def exec_cb50_BIT_2_B (s : State) : Outcome := prefixedLine "BIT 2,B" 1 s

/-- R2081: `CB 51`, `Plain("BIT 2,C", 1)`. -/
def exec_cb51_BIT_2_C (s : State) : Outcome := prefixedLine "BIT 2,C" 1 s

/-- R2082: `CB 52`, `Plain("BIT 2,D", 1)`. -/
def exec_cb52_BIT_2_D (s : State) : Outcome := prefixedLine "BIT 2,D" 1 s

/-- R2083: `CB 53`, `Plain("BIT 2,E", 1)`. -/
def exec_cb53_BIT_2_E (s : State) : Outcome := prefixedLine "BIT 2,E" 1 s

/-- R2084: `CB 54`, `Plain("BIT 2,H", 1)`. -/
def exec_cb54_BIT_2_H (s : State) : Outcome := prefixedLine "BIT 2,H" 1 s

/-- R2085: `CB 55`, `Plain("BIT 2,L", 1)`. -/
def exec_cb55_BIT_2_L (s : State) : Outcome := prefixedLine "BIT 2,L" 1 s

/-- R2086: `CB 56`, `Plain("BIT 2,(HL)", 1)`. -/
def exec_cb56_BIT_2_mHL (s : State) : Outcome := prefixedLine "BIT 2,(HL)" 1 s

/-- R2087: `CB 57`, `Plain("BIT 2,A", 1)`. -/
def exec_cb57_BIT_2_A (s : State) : Outcome := prefixedLine "BIT 2,A" 1 s

/-- R2088: `CB 58`, `Plain("BIT 3,B", 1)`. -/
def exec_cb58_BIT_3_B (s : State) : Outcome := prefixedLine "BIT 3,B" 1 s

/-- R2089: `CB 59`, `Plain("BIT 3,C", 1)`. -/
def exec_cb59_BIT_3_C (s : State) : Outcome := prefixedLine "BIT 3,C" 1 s

/-- R2090: `CB 5A`, `Plain("BIT 3,D", 1)`. -/
def exec_cb5A_BIT_3_D (s : State) : Outcome := prefixedLine "BIT 3,D" 1 s

/-- R2091: `CB 5B`, `Plain("BIT 3,E", 1)`. -/
def exec_cb5B_BIT_3_E (s : State) : Outcome := prefixedLine "BIT 3,E" 1 s

/-- R2092: `CB 5C`, `Plain("BIT 3,H", 1)`. -/
def exec_cb5C_BIT_3_H (s : State) : Outcome := prefixedLine "BIT 3,H" 1 s

/-- R2093: `CB 5D`, `Plain("BIT 3,L", 1)`. -/
def exec_cb5D_BIT_3_L (s : State) : Outcome := prefixedLine "BIT 3,L" 1 s

/-- R2094: `CB 5E`, `Plain("BIT 3,(HL)", 1)`. -/
def exec_cb5E_BIT_3_mHL (s : State) : Outcome := prefixedLine "BIT 3,(HL)" 1 s

/-- R2095: `CB 5F`, `Plain("BIT 3,A", 1)`. -/
def exec_cb5F_BIT_3_A (s : State) : Outcome := prefixedLine "BIT 3,A" 1 s

/-- R2096: `CB 60`, `Plain("BIT 4,B", 1)`. -/
def exec_cb60_BIT_4_B (s : State) : Outcome := prefixedLine "BIT 4,B" 1 s

/-- R2097: `CB 61`, `Plain("BIT 4,C", 1)`. -/
def exec_cb61_BIT_4_C (s : State) : Outcome := prefixedLine "BIT 4,C" 1 s

/-- R2098: `CB 62`, `Plain("BIT 4,D", 1)`. -/
def exec_cb62_BIT_4_D (s : State) : Outcome := prefixedLine "BIT 4,D" 1 s

/-- R2099: `CB 63`, `Plain("BIT 4,E", 1)`. -/
def exec_cb63_BIT_4_E (s : State) : Outcome := prefixedLine "BIT 4,E" 1 s

/-- R2100: `CB 64`, `Plain("BIT 4,H", 1)`. -/
def exec_cb64_BIT_4_H (s : State) : Outcome := prefixedLine "BIT 4,H" 1 s

/-- R2101: `CB 65`, `Plain("BIT 4,L", 1)`. -/
def exec_cb65_BIT_4_L (s : State) : Outcome := prefixedLine "BIT 4,L" 1 s

/-- R2102: `CB 66`, `Plain("BIT 4,(HL)", 1)`. -/
def exec_cb66_BIT_4_mHL (s : State) : Outcome := prefixedLine "BIT 4,(HL)" 1 s

/-- R2103: `CB 67`, `Plain("BIT 4,A", 1)`. -/
def exec_cb67_BIT_4_A (s : State) : Outcome := prefixedLine "BIT 4,A" 1 s

/-- R2104: `CB 68`, `Plain("BIT 5,B", 1)`. -/
def exec_cb68_BIT_5_B (s : State) : Outcome := prefixedLine "BIT 5,B" 1 s

/-- R2105: `CB 69`, `Plain("BIT 5,C", 1)`. -/
def exec_cb69_BIT_5_C (s : State) : Outcome := prefixedLine "BIT 5,C" 1 s

/-- R2106: `CB 6A`, `Plain("BIT 5,D", 1)`. -/
def exec_cb6A_BIT_5_D (s : State) : Outcome := prefixedLine "BIT 5,D" 1 s

/-- R2107: `CB 6B`, `Plain("BIT 5,E", 1)`. -/
def exec_cb6B_BIT_5_E (s : State) : Outcome := prefixedLine "BIT 5,E" 1 s

/-- R2108: `CB 6C`, `Plain("BIT 5,H", 1)`. -/
def exec_cb6C_BIT_5_H (s : State) : Outcome := prefixedLine "BIT 5,H" 1 s

/-- R2109: `CB 6D`, `Plain("BIT 5,L", 1)`. -/
def exec_cb6D_BIT_5_L (s : State) : Outcome := prefixedLine "BIT 5,L" 1 s

/-- R2110: `CB 6E`, `Plain("BIT 5,(HL)", 1)`. -/
def exec_cb6E_BIT_5_mHL (s : State) : Outcome := prefixedLine "BIT 5,(HL)" 1 s

/-- R2111: `CB 6F`, `Plain("BIT 5,A", 1)`. -/
def exec_cb6F_BIT_5_A (s : State) : Outcome := prefixedLine "BIT 5,A" 1 s

/-- R2112: `CB 70`, `Plain("BIT 6,B", 1)`. -/
def exec_cb70_BIT_6_B (s : State) : Outcome := prefixedLine "BIT 6,B" 1 s

/-- R2113: `CB 71`, `Plain("BIT 6,C", 1)`. -/
def exec_cb71_BIT_6_C (s : State) : Outcome := prefixedLine "BIT 6,C" 1 s

/-- R2114: `CB 72`, `Plain("BIT 6,D", 1)`. -/
def exec_cb72_BIT_6_D (s : State) : Outcome := prefixedLine "BIT 6,D" 1 s

/-- R2115: `CB 73`, `Plain("BIT 6,E", 1)`. -/
def exec_cb73_BIT_6_E (s : State) : Outcome := prefixedLine "BIT 6,E" 1 s

/-- R2116: `CB 74`, `Plain("BIT 6,H", 1)`. -/
def exec_cb74_BIT_6_H (s : State) : Outcome := prefixedLine "BIT 6,H" 1 s

/-- R2117: `CB 75`, `Plain("BIT 6,L", 1)`. -/
def exec_cb75_BIT_6_L (s : State) : Outcome := prefixedLine "BIT 6,L" 1 s

/-- R2118: `CB 76`, `Plain("BIT 6,(HL)", 1)`. -/
def exec_cb76_BIT_6_mHL (s : State) : Outcome := prefixedLine "BIT 6,(HL)" 1 s

/-- R2119: `CB 77`, `Plain("BIT 6,A", 1)`. -/
def exec_cb77_BIT_6_A (s : State) : Outcome := prefixedLine "BIT 6,A" 1 s

/-- R2120: `CB 78`, `Plain("BIT 7,B", 1)`. -/
def exec_cb78_BIT_7_B (s : State) : Outcome := prefixedLine "BIT 7,B" 1 s

/-- R2121: `CB 79`, `Plain("BIT 7,C", 1)`. -/
def exec_cb79_BIT_7_C (s : State) : Outcome := prefixedLine "BIT 7,C" 1 s

/-- R2122: `CB 7A`, `Plain("BIT 7,D", 1)`. -/
def exec_cb7A_BIT_7_D (s : State) : Outcome := prefixedLine "BIT 7,D" 1 s

/-- R2123: `CB 7B`, `Plain("BIT 7,E", 1)`. -/
def exec_cb7B_BIT_7_E (s : State) : Outcome := prefixedLine "BIT 7,E" 1 s

/-- R2124: `CB 7C`, `Plain("BIT 7,H", 1)`. -/
def exec_cb7C_BIT_7_H (s : State) : Outcome := prefixedLine "BIT 7,H" 1 s

/-- R2125: `CB 7D`, `Plain("BIT 7,L", 1)`. -/
def exec_cb7D_BIT_7_L (s : State) : Outcome := prefixedLine "BIT 7,L" 1 s

/-- R2126: `CB 7E`, `Plain("BIT 7,(HL)", 1)`. -/
def exec_cb7E_BIT_7_mHL (s : State) : Outcome := prefixedLine "BIT 7,(HL)" 1 s

/-- R2127: `CB 7F`, `Plain("BIT 7,A", 1)`. -/
def exec_cb7F_BIT_7_A (s : State) : Outcome := prefixedLine "BIT 7,A" 1 s

/-- R2128: `CB 80`, `Plain("RES 0,B", 1)`. -/
def exec_cb80_RES_0_B (s : State) : Outcome := prefixedLine "RES 0,B" 1 s

/-- R2129: `CB 81`, `Plain("RES 0,C", 1)`. -/
def exec_cb81_RES_0_C (s : State) : Outcome := prefixedLine "RES 0,C" 1 s

/-- R2130: `CB 82`, `Plain("RES 0,D", 1)`. -/
def exec_cb82_RES_0_D (s : State) : Outcome := prefixedLine "RES 0,D" 1 s

/-- R2131: `CB 83`, `Plain("RES 0,E", 1)`. -/
def exec_cb83_RES_0_E (s : State) : Outcome := prefixedLine "RES 0,E" 1 s

/-- R2132: `CB 84`, `Plain("RES 0,H", 1)`. -/
def exec_cb84_RES_0_H (s : State) : Outcome := prefixedLine "RES 0,H" 1 s

/-- R2133: `CB 85`, `Plain("RES 0,L", 1)`. -/
def exec_cb85_RES_0_L (s : State) : Outcome := prefixedLine "RES 0,L" 1 s

/-- R2134: `CB 86`, `Plain("RES 0,(HL)", 1)`. -/
def exec_cb86_RES_0_mHL (s : State) : Outcome := prefixedLine "RES 0,(HL)" 1 s

/-- R2135: `CB 87`, `Plain("RES 0,A", 1)`. -/
def exec_cb87_RES_0_A (s : State) : Outcome := prefixedLine "RES 0,A" 1 s

/-- R2136: `CB 88`, `Plain("RES 1,B", 1)`. -/
def exec_cb88_RES_1_B (s : State) : Outcome := prefixedLine "RES 1,B" 1 s

/-- R2137: `CB 89`, `Plain("RES 1,C", 1)`. -/
def exec_cb89_RES_1_C (s : State) : Outcome := prefixedLine "RES 1,C" 1 s

/-- R2138: `CB 8A`, `Plain("RES 1,D", 1)`. -/
def exec_cb8A_RES_1_D (s : State) : Outcome := prefixedLine "RES 1,D" 1 s

/-- R2139: `CB 8B`, `Plain("RES 1,E", 1)`. -/
def exec_cb8B_RES_1_E (s : State) : Outcome := prefixedLine "RES 1,E" 1 s

/-- R2140: `CB 8C`, `Plain("RES 1,H", 1)`. -/
def exec_cb8C_RES_1_H (s : State) : Outcome := prefixedLine "RES 1,H" 1 s

/-- R2141: `CB 8D`, `Plain("RES 1,L", 1)`. -/
def exec_cb8D_RES_1_L (s : State) : Outcome := prefixedLine "RES 1,L" 1 s

/-- R2142: `CB 8E`, `Plain("RES 1,(HL)", 1)`. -/
def exec_cb8E_RES_1_mHL (s : State) : Outcome := prefixedLine "RES 1,(HL)" 1 s

/-- R2143: `CB 8F`, `Plain("RES 1,A", 1)`. -/
def exec_cb8F_RES_1_A (s : State) : Outcome := prefixedLine "RES 1,A" 1 s

/-- R2144: `CB 90`, `Plain("RES 2,B", 1)`. -/
def exec_cb90_RES_2_B (s : State) : Outcome := prefixedLine "RES 2,B" 1 s

/-- R2145: `CB 91`, `Plain("RES 2,C", 1)`. -/
def exec_cb91_RES_2_C (s : State) : Outcome := prefixedLine "RES 2,C" 1 s

/-- R2146: `CB 92`, `Plain("RES 2,D", 1)`. -/
def exec_cb92_RES_2_D (s : State) : Outcome := prefixedLine "RES 2,D" 1 s

/-- R2147: `CB 93`, `Plain("RES 2,E", 1)`. -/
def exec_cb93_RES_2_E (s : State) : Outcome := prefixedLine "RES 2,E" 1 s

/-- R2148: `CB 94`, `Plain("RES 2,H", 1)`. -/
def exec_cb94_RES_2_H (s : State) : Outcome := prefixedLine "RES 2,H" 1 s

/-- R2149: `CB 95`, `Plain("RES 2,L", 1)`. -/
def exec_cb95_RES_2_L (s : State) : Outcome := prefixedLine "RES 2,L" 1 s

/-- R2150: `CB 96`, `Plain("RES 2,(HL)", 1)`. -/
def exec_cb96_RES_2_mHL (s : State) : Outcome := prefixedLine "RES 2,(HL)" 1 s

/-- R2151: `CB 97`, `Plain("RES 2,A", 1)`. -/
def exec_cb97_RES_2_A (s : State) : Outcome := prefixedLine "RES 2,A" 1 s

/-- R2152: `CB 98`, `Plain("RES 3,B", 1)`. -/
def exec_cb98_RES_3_B (s : State) : Outcome := prefixedLine "RES 3,B" 1 s

/-- R2153: `CB 99`, `Plain("RES 3,C", 1)`. -/
def exec_cb99_RES_3_C (s : State) : Outcome := prefixedLine "RES 3,C" 1 s

/-- R2154: `CB 9A`, `Plain("RES 3,D", 1)`. -/
def exec_cb9A_RES_3_D (s : State) : Outcome := prefixedLine "RES 3,D" 1 s

/-- R2155: `CB 9B`, `Plain("RES 3,E", 1)`. -/
def exec_cb9B_RES_3_E (s : State) : Outcome := prefixedLine "RES 3,E" 1 s

/-- R2156: `CB 9C`, `Plain("RES 3,H", 1)`. -/
def exec_cb9C_RES_3_H (s : State) : Outcome := prefixedLine "RES 3,H" 1 s

/-- R2157: `CB 9D`, `Plain("RES 3,L", 1)`. -/
def exec_cb9D_RES_3_L (s : State) : Outcome := prefixedLine "RES 3,L" 1 s

/-- R2158: `CB 9E`, `Plain("RES 3,(HL)", 1)`. -/
def exec_cb9E_RES_3_mHL (s : State) : Outcome := prefixedLine "RES 3,(HL)" 1 s

/-- R2159: `CB 9F`, `Plain("RES 3,A", 1)`. -/
def exec_cb9F_RES_3_A (s : State) : Outcome := prefixedLine "RES 3,A" 1 s

/-- R2160: `CB A0`, `Plain("RES 4,B", 1)`. -/
def exec_cbA0_RES_4_B (s : State) : Outcome := prefixedLine "RES 4,B" 1 s

/-- R2161: `CB A1`, `Plain("RES 4,C", 1)`. -/
def exec_cbA1_RES_4_C (s : State) : Outcome := prefixedLine "RES 4,C" 1 s

/-- R2162: `CB A2`, `Plain("RES 4,D", 1)`. -/
def exec_cbA2_RES_4_D (s : State) : Outcome := prefixedLine "RES 4,D" 1 s

/-- R2163: `CB A3`, `Plain("RES 4,E", 1)`. -/
def exec_cbA3_RES_4_E (s : State) : Outcome := prefixedLine "RES 4,E" 1 s

/-- R2164: `CB A4`, `Plain("RES 4,H", 1)`. -/
def exec_cbA4_RES_4_H (s : State) : Outcome := prefixedLine "RES 4,H" 1 s

/-- R2165: `CB A5`, `Plain("RES 4,L", 1)`. -/
def exec_cbA5_RES_4_L (s : State) : Outcome := prefixedLine "RES 4,L" 1 s

/-- R2166: `CB A6`, `Plain("RES 4,(HL)", 1)`. -/
def exec_cbA6_RES_4_mHL (s : State) : Outcome := prefixedLine "RES 4,(HL)" 1 s

/-- R2167: `CB A7`, `Plain("RES 4,A", 1)`. -/
def exec_cbA7_RES_4_A (s : State) : Outcome := prefixedLine "RES 4,A" 1 s

/-- R2168: `CB A8`, `Plain("RES 5,B", 1)`. -/
def exec_cbA8_RES_5_B (s : State) : Outcome := prefixedLine "RES 5,B" 1 s

/-- R2169: `CB A9`, `Plain("RES 5,C", 1)`. -/
def exec_cbA9_RES_5_C (s : State) : Outcome := prefixedLine "RES 5,C" 1 s

/-- R2170: `CB AA`, `Plain("RES 5,D", 1)`. -/
def exec_cbAA_RES_5_D (s : State) : Outcome := prefixedLine "RES 5,D" 1 s

/-- R2171: `CB AB`, `Plain("RES 5,E", 1)`. -/
def exec_cbAB_RES_5_E (s : State) : Outcome := prefixedLine "RES 5,E" 1 s

/-- R2172: `CB AC`, `Plain("RES 5,H", 1)`. -/
def exec_cbAC_RES_5_H (s : State) : Outcome := prefixedLine "RES 5,H" 1 s

/-- R2173: `CB AD`, `Plain("RES 5,L", 1)`. -/
def exec_cbAD_RES_5_L (s : State) : Outcome := prefixedLine "RES 5,L" 1 s

/-- R2174: `CB AE`, `Plain("RES 5,(HL)", 1)`. -/
def exec_cbAE_RES_5_mHL (s : State) : Outcome := prefixedLine "RES 5,(HL)" 1 s

/-- R2175: `CB AF`, `Plain("RES 5,A", 1)`. -/
def exec_cbAF_RES_5_A (s : State) : Outcome := prefixedLine "RES 5,A" 1 s

/-- R2176: `CB B0`, `Plain("RES 6,B", 1)`. -/
def exec_cbB0_RES_6_B (s : State) : Outcome := prefixedLine "RES 6,B" 1 s

/-- R2177: `CB B1`, `Plain("RES 6,C", 1)`. -/
def exec_cbB1_RES_6_C (s : State) : Outcome := prefixedLine "RES 6,C" 1 s

/-- R2178: `CB B2`, `Plain("RES 6,D", 1)`. -/
def exec_cbB2_RES_6_D (s : State) : Outcome := prefixedLine "RES 6,D" 1 s

/-- R2179: `CB B3`, `Plain("RES 6,E", 1)`. -/
def exec_cbB3_RES_6_E (s : State) : Outcome := prefixedLine "RES 6,E" 1 s

/-- R2180: `CB B4`, `Plain("RES 6,H", 1)`. -/
def exec_cbB4_RES_6_H (s : State) : Outcome := prefixedLine "RES 6,H" 1 s

/-- R2181: `CB B5`, `Plain("RES 6,L", 1)`. -/
def exec_cbB5_RES_6_L (s : State) : Outcome := prefixedLine "RES 6,L" 1 s

/-- R2182: `CB B6`, `Plain("RES 6,(HL)", 1)`. -/
def exec_cbB6_RES_6_mHL (s : State) : Outcome := prefixedLine "RES 6,(HL)" 1 s

/-- R2183: `CB B7`, `Plain("RES 6,A", 1)`. -/
def exec_cbB7_RES_6_A (s : State) : Outcome := prefixedLine "RES 6,A" 1 s

/-- R2184: `CB B8`, `Plain("RES 7,B", 1)`. -/
def exec_cbB8_RES_7_B (s : State) : Outcome := prefixedLine "RES 7,B" 1 s

/-- R2185: `CB B9`, `Plain("RES 7,C", 1)`. -/
def exec_cbB9_RES_7_C (s : State) : Outcome := prefixedLine "RES 7,C" 1 s

/-- R2186: `CB BA`, `Plain("RES 7,D", 1)`. -/
def exec_cbBA_RES_7_D (s : State) : Outcome := prefixedLine "RES 7,D" 1 s

/-- R2187: `CB BB`, `Plain("RES 7,E", 1)`. -/
def exec_cbBB_RES_7_E (s : State) : Outcome := prefixedLine "RES 7,E" 1 s

/-- R2188: `CB BC`, `Plain("RES 7,H", 1)`. -/
def exec_cbBC_RES_7_H (s : State) : Outcome := prefixedLine "RES 7,H" 1 s

/-- R2189: `CB BD`, `Plain("RES 7,L", 1)`. -/
def exec_cbBD_RES_7_L (s : State) : Outcome := prefixedLine "RES 7,L" 1 s

/-- R2190: `CB BE`, `Plain("RES 7,(HL)", 1)`. -/
def exec_cbBE_RES_7_mHL (s : State) : Outcome := prefixedLine "RES 7,(HL)" 1 s

/-- R2191: `CB BF`, `Plain("RES 7,A", 1)`. -/
def exec_cbBF_RES_7_A (s : State) : Outcome := prefixedLine "RES 7,A" 1 s

/-- R2192: `CB C0`, `Plain("SET 0,B", 1)`. -/
def exec_cbC0_SET_0_B (s : State) : Outcome := prefixedLine "SET 0,B" 1 s

/-- R2193: `CB C1`, `Plain("SET 0,C", 1)`. -/
def exec_cbC1_SET_0_C (s : State) : Outcome := prefixedLine "SET 0,C" 1 s

/-- R2194: `CB C2`, `Plain("SET 0,D", 1)`. -/
def exec_cbC2_SET_0_D (s : State) : Outcome := prefixedLine "SET 0,D" 1 s

/-- R2195: `CB C3`, `Plain("SET 0,E", 1)`. -/
def exec_cbC3_SET_0_E (s : State) : Outcome := prefixedLine "SET 0,E" 1 s

/-- R2196: `CB C4`, `Plain("SET 0,H", 1)`. -/
def exec_cbC4_SET_0_H (s : State) : Outcome := prefixedLine "SET 0,H" 1 s

/-- R2197: `CB C5`, `Plain("SET 0,L", 1)`. -/
def exec_cbC5_SET_0_L (s : State) : Outcome := prefixedLine "SET 0,L" 1 s

/-- R2198: `CB C6`, `Plain("SET 0,(HL)", 1)`. -/
def exec_cbC6_SET_0_mHL (s : State) : Outcome := prefixedLine "SET 0,(HL)" 1 s

/-- R2199: `CB C7`, `Plain("SET 0,A", 1)`. -/
def exec_cbC7_SET_0_A (s : State) : Outcome := prefixedLine "SET 0,A" 1 s

/-- R2200: `CB C8`, `Plain("SET 1,B", 1)`. -/
def exec_cbC8_SET_1_B (s : State) : Outcome := prefixedLine "SET 1,B" 1 s

/-- R2201: `CB C9`, `Plain("SET 1,C", 1)`. -/
def exec_cbC9_SET_1_C (s : State) : Outcome := prefixedLine "SET 1,C" 1 s

/-- R2202: `CB CA`, `Plain("SET 1,D", 1)`. -/
def exec_cbCA_SET_1_D (s : State) : Outcome := prefixedLine "SET 1,D" 1 s

/-- R2203: `CB CB`, `Plain("SET 1,E", 1)`. -/
def exec_cbCB_SET_1_E (s : State) : Outcome := prefixedLine "SET 1,E" 1 s

/-- R2204: `CB CC`, `Plain("SET 1,H", 1)`. -/
def exec_cbCC_SET_1_H (s : State) : Outcome := prefixedLine "SET 1,H" 1 s

/-- R2205: `CB CD`, `Plain("SET 1,L", 1)`. -/
def exec_cbCD_SET_1_L (s : State) : Outcome := prefixedLine "SET 1,L" 1 s

/-- R2206: `CB CE`, `Plain("SET 1,(HL)", 1)`. -/
def exec_cbCE_SET_1_mHL (s : State) : Outcome := prefixedLine "SET 1,(HL)" 1 s

/-- R2207: `CB CF`, `Plain("SET 1,A", 1)`. -/
def exec_cbCF_SET_1_A (s : State) : Outcome := prefixedLine "SET 1,A" 1 s

/-- R2208: `CB D0`, `Plain("SET 2,B", 1)`. -/
def exec_cbD0_SET_2_B (s : State) : Outcome := prefixedLine "SET 2,B" 1 s

/-- R2209: `CB D1`, `Plain("SET 2,C", 1)`. -/
def exec_cbD1_SET_2_C (s : State) : Outcome := prefixedLine "SET 2,C" 1 s

/-- R2210: `CB D2`, `Plain("SET 2,D", 1)`. -/
def exec_cbD2_SET_2_D (s : State) : Outcome := prefixedLine "SET 2,D" 1 s

/-- R2211: `CB D3`, `Plain("SET 2,E", 1)`. -/
def exec_cbD3_SET_2_E (s : State) : Outcome := prefixedLine "SET 2,E" 1 s

/-- R2212: `CB D4`, `Plain("SET 2,H", 1)`. -/
def exec_cbD4_SET_2_H (s : State) : Outcome := prefixedLine "SET 2,H" 1 s

/-- R2213: `CB D5`, `Plain("SET 2,L", 1)`. -/
def exec_cbD5_SET_2_L (s : State) : Outcome := prefixedLine "SET 2,L" 1 s

/-- R2214: `CB D6`, `Plain("SET 2,(HL)", 1)`. -/
def exec_cbD6_SET_2_mHL (s : State) : Outcome := prefixedLine "SET 2,(HL)" 1 s

/-- R2215: `CB D7`, `Plain("SET 2,A", 1)`. -/
def exec_cbD7_SET_2_A (s : State) : Outcome := prefixedLine "SET 2,A" 1 s

/-- R2216: `CB D8`, `Plain("SET 3,B", 1)`. -/
def exec_cbD8_SET_3_B (s : State) : Outcome := prefixedLine "SET 3,B" 1 s

/-- R2217: `CB D9`, `Plain("SET 3,C", 1)`. -/
def exec_cbD9_SET_3_C (s : State) : Outcome := prefixedLine "SET 3,C" 1 s

/-- R2218: `CB DA`, `Plain("SET 3,D", 1)`. -/
def exec_cbDA_SET_3_D (s : State) : Outcome := prefixedLine "SET 3,D" 1 s

/-- R2219: `CB DB`, `Plain("SET 3,E", 1)`. -/
def exec_cbDB_SET_3_E (s : State) : Outcome := prefixedLine "SET 3,E" 1 s

/-- R2220: `CB DC`, `Plain("SET 3,H", 1)`. -/
def exec_cbDC_SET_3_H (s : State) : Outcome := prefixedLine "SET 3,H" 1 s

/-- R2221: `CB DD`, `Plain("SET 3,L", 1)`. -/
def exec_cbDD_SET_3_L (s : State) : Outcome := prefixedLine "SET 3,L" 1 s

/-- R2222: `CB DE`, `Plain("SET 3,(HL)", 1)`. -/
def exec_cbDE_SET_3_mHL (s : State) : Outcome := prefixedLine "SET 3,(HL)" 1 s

/-- R2223: `CB DF`, `Plain("SET 3,A", 1)`. -/
def exec_cbDF_SET_3_A (s : State) : Outcome := prefixedLine "SET 3,A" 1 s

/-- R2224: `CB E0`, `Plain("SET 4,B", 1)`. -/
def exec_cbE0_SET_4_B (s : State) : Outcome := prefixedLine "SET 4,B" 1 s

/-- R2225: `CB E1`, `Plain("SET 4,C", 1)`. -/
def exec_cbE1_SET_4_C (s : State) : Outcome := prefixedLine "SET 4,C" 1 s

/-- R2226: `CB E2`, `Plain("SET 4,D", 1)`. -/
def exec_cbE2_SET_4_D (s : State) : Outcome := prefixedLine "SET 4,D" 1 s

/-- R2227: `CB E3`, `Plain("SET 4,E", 1)`. -/
def exec_cbE3_SET_4_E (s : State) : Outcome := prefixedLine "SET 4,E" 1 s

/-- R2228: `CB E4`, `Plain("SET 4,H", 1)`. -/
def exec_cbE4_SET_4_H (s : State) : Outcome := prefixedLine "SET 4,H" 1 s

/-- R2229: `CB E5`, `Plain("SET 4,L", 1)`. -/
def exec_cbE5_SET_4_L (s : State) : Outcome := prefixedLine "SET 4,L" 1 s

/-- R2230: `CB E6`, `Plain("SET 4,(HL)", 1)`. -/
def exec_cbE6_SET_4_mHL (s : State) : Outcome := prefixedLine "SET 4,(HL)" 1 s

/-- R2231: `CB E7`, `Plain("SET 4,A", 1)`. -/
def exec_cbE7_SET_4_A (s : State) : Outcome := prefixedLine "SET 4,A" 1 s

/-- R2232: `CB E8`, `Plain("SET 5,B", 1)`. -/
def exec_cbE8_SET_5_B (s : State) : Outcome := prefixedLine "SET 5,B" 1 s

/-- R2233: `CB E9`, `Plain("SET 5,C", 1)`. -/
def exec_cbE9_SET_5_C (s : State) : Outcome := prefixedLine "SET 5,C" 1 s

/-- R2234: `CB EA`, `Plain("SET 5,D", 1)`. -/
def exec_cbEA_SET_5_D (s : State) : Outcome := prefixedLine "SET 5,D" 1 s

/-- R2235: `CB EB`, `Plain("SET 5,E", 1)`. -/
def exec_cbEB_SET_5_E (s : State) : Outcome := prefixedLine "SET 5,E" 1 s

/-- R2236: `CB EC`, `Plain("SET 5,H", 1)`. -/
def exec_cbEC_SET_5_H (s : State) : Outcome := prefixedLine "SET 5,H" 1 s

/-- R2237: `CB ED`, `Plain("SET 5,L", 1)`. -/
def exec_cbED_SET_5_L (s : State) : Outcome := prefixedLine "SET 5,L" 1 s

/-- R2238: `CB EE`, `Plain("SET 5,(HL)", 1)`. -/
def exec_cbEE_SET_5_mHL (s : State) : Outcome := prefixedLine "SET 5,(HL)" 1 s

/-- R2239: `CB EF`, `Plain("SET 5,A", 1)`. -/
def exec_cbEF_SET_5_A (s : State) : Outcome := prefixedLine "SET 5,A" 1 s

/-- R2240: `CB F0`, `Plain("SET 6,B", 1)`. -/
def exec_cbF0_SET_6_B (s : State) : Outcome := prefixedLine "SET 6,B" 1 s

/-- R2241: `CB F1`, `Plain("SET 6,C", 1)`. -/
def exec_cbF1_SET_6_C (s : State) : Outcome := prefixedLine "SET 6,C" 1 s

/-- R2242: `CB F2`, `Plain("SET 6,D", 1)`. -/
def exec_cbF2_SET_6_D (s : State) : Outcome := prefixedLine "SET 6,D" 1 s

/-- R2243: `CB F3`, `Plain("SET 6,E", 1)`. -/
def exec_cbF3_SET_6_E (s : State) : Outcome := prefixedLine "SET 6,E" 1 s

/-- R2244: `CB F4`, `Plain("SET 6,H", 1)`. -/
def exec_cbF4_SET_6_H (s : State) : Outcome := prefixedLine "SET 6,H" 1 s

/-- R2245: `CB F5`, `Plain("SET 6,L", 1)`. -/
def exec_cbF5_SET_6_L (s : State) : Outcome := prefixedLine "SET 6,L" 1 s

/-- R2246: `CB F6`, `Plain("SET 6,(HL)", 1)`. -/
def exec_cbF6_SET_6_mHL (s : State) : Outcome := prefixedLine "SET 6,(HL)" 1 s

/-- R2247: `CB F7`, `Plain("SET 6,A", 1)`. -/
def exec_cbF7_SET_6_A (s : State) : Outcome := prefixedLine "SET 6,A" 1 s

/-- R2248: `CB F8`, `Plain("SET 7,B", 1)`. -/
def exec_cbF8_SET_7_B (s : State) : Outcome := prefixedLine "SET 7,B" 1 s

/-- R2249: `CB F9`, `Plain("SET 7,C", 1)`. -/
def exec_cbF9_SET_7_C (s : State) : Outcome := prefixedLine "SET 7,C" 1 s

/-- R2250: `CB FA`, `Plain("SET 7,D", 1)`. -/
def exec_cbFA_SET_7_D (s : State) : Outcome := prefixedLine "SET 7,D" 1 s

/-- R2251: `CB FB`, `Plain("SET 7,E", 1)`. -/
def exec_cbFB_SET_7_E (s : State) : Outcome := prefixedLine "SET 7,E" 1 s

/-- R2252: `CB FC`, `Plain("SET 7,H", 1)`. -/
def exec_cbFC_SET_7_H (s : State) : Outcome := prefixedLine "SET 7,H" 1 s

/-- R2253: `CB FD`, `Plain("SET 7,L", 1)`. -/
def exec_cbFD_SET_7_L (s : State) : Outcome := prefixedLine "SET 7,L" 1 s

/-- R2254: `CB FE`, `Plain("SET 7,(HL)", 1)`. -/
def exec_cbFE_SET_7_mHL (s : State) : Outcome := prefixedLine "SET 7,(HL)" 1 s

/-- R2255: `CB FF`, `Plain("SET 7,A", 1)`. -/
def exec_cbFF_SET_7_A (s : State) : Outcome := prefixedLine "SET 7,A" 1 s

end Sys2Proof.Machine
end

