-- ==== Sys2Proof/Machine/Engine.lean ====
section
/-! DEFINITION. The decode step over any table set, as 40_decoder.md R130 writes it. It decodes a replacement table set, gives the dispatch rows their meaning, and is what the instruction-by-instruction model is compared with. -/

namespace Sys2Proof.Machine.Engine

/-- The mnemonic of an instruction entry; a marker has none (00_scope.md R12). -/
def mnemonicOf : Descriptor → Option String
  | .plain m _ | .placeholder m _ => some m
  | .prefixTo _ | .displacedPrefixTo _ => none

/-- 40_decoder.md R137-R143, for a descriptor `Plain(m, L)` found after `pfx` prefix bytes. -/
def finish (pfx : Nat) (m : String) (L : Nat) (s : State) : Outcome :=
  let total := L + pfx
  if s.off + total > s.size then .next (s.stop .truncatedOperand)
  else .next ((s.emit m (s.operandAt (s.off + 1 + pfx) L)).advance total)

/-- 40_decoder.md R136: the displaced form through third-level table `t3`. -/
def displaced (T : TableSet) (t3 : TableId) (s : State) : Outcome :=
  if s.off + 3 ≥ s.size then .next (s.stop .truncatedOperand)
  else
    match (T.lookup t3 (s.byteAt (s.off + 3))).bind mnemonicOf with
    | some m => .next ((s.emit m (.u8 (s.byteAt (s.off + 2)))).advance 4)
    | none => .refused .illFormedTables

/-- 40_decoder.md R134, R135: the selector, looked up in table `t`. -/
def dispatch (T : TableSet) (t : TableId) (s : State) : Outcome :=
  if s.off + 1 ≥ s.size then .next (s.stop .truncatedPrefix)
  else
    match T.lookup t (s.byteAt (s.off + 1)) with
    | some (.plain m L) => finish 1 m L s
    | some (.placeholder m L) => finish 1 m L s
    | some (.displacedPrefixTo t3) => displaced T t3 s
    | some (.prefixTo _) => .refused .illFormedTables
    | none => .refused .illFormedTables

/-- 40_decoder.md R130, one step of a running decoder over the table set `T`. -/
def step (T : TableSet) (s : State) : Outcome :=
  if s.off ≥ s.size then .next (s.stop .endOfStream)
  else
    match T.lookup .primary (s.byteAt s.off) with
    | some (.plain m L) => finish 0 m L s
    | some (.placeholder m L) => finish 0 m L s
    | some (.prefixTo t) => dispatch T t s
    | some (.displacedPrefixTo _) => .refused .illFormedTables
    | none => .refused .illFormedTables

end Sys2Proof.Machine.Engine

namespace Sys2Proof.Machine

/-- The meaning of a prefix marker row (R1203, R1221, R1237, R1253): after the checks before it in
60_exceptions.md R203, the selector's entry governs. -/
def prefixRow (T : TableSet) (t : TableId) (s : State) : Outcome :=
  if s.off ≥ s.size then .next (s.stop .endOfStream) else Engine.dispatch T t s

/-- The meaning of a displaced marker row (R4203, R5203), after the checks before it in
60_exceptions.md R203. -/
def displacedRow (T : TableSet) (t3 : TableId) (s : State) : Outcome :=
  if s.off ≥ s.size then .next (s.stop .endOfStream)
  else if s.off + 1 ≥ s.size then .next (s.stop .truncatedPrefix)
  else Engine.displaced T t3 s

/-- The effect of a descriptor found in table `t`: the line of an instruction entry, or the dispatch of a marker.
It says in one place what the meanings of the 1792 entries have in common. -/
def entryEffect (T : TableSet) (t : TableId) (d : Option Descriptor) (s : State) : Outcome :=
  match d with
  | none => .refused .illFormedTables
  | some (.prefixTo t') => prefixRow T t' s
  | some (.displacedPrefixTo t3) => displacedRow T t3 s
  | some (.plain m L) => entryLine t m L s
  | some (.placeholder m L) => entryLine t m L s

end Sys2Proof.Machine
end

