-- ==== Sys2Proof/Machine/Tables.lean ====
section
/-! DEFINITION. The default content of `TABLES`: the entries of files 41-47 (30_encoding.md R91; 92_eei_decisions.md D4; log 14). -/

namespace Sys2Proof.Machine

open Descriptor

/-- Primary table, indices 00-0F: R1000-R1015. -/
def primaryEntries0 : List Descriptor := [
  plain "NOP" 1, plain "LD BC,nn" 3, plain "LD (BC),A" 1, plain "INC BC" 1,
  plain "INC B" 1, plain "DEC B" 1, plain "LD B,n" 2, plain "RLCA" 1,
  plain "EX AF,AF'" 1, plain "ADD HL,BC" 1, plain "LD A,(BC)" 1, plain "DEC BC" 1,
  plain "INC C" 1, plain "DEC C" 1, plain "LD C,n" 2, plain "RRCA" 1]

/-- Primary table, indices 10-1F: R1016-R1031. -/
def primaryEntries1 : List Descriptor := [
  plain "DJNZ e" 2, plain "LD DE,nn" 3, plain "LD (DE),A" 1, plain "INC DE" 1,
  plain "INC D" 1, plain "DEC D" 1, plain "LD D,n" 2, plain "RLA" 1,
  plain "JR e" 2, plain "ADD HL,DE" 1, plain "LD A,(DE)" 1, plain "DEC DE" 1,
  plain "INC E" 1, plain "DEC E" 1, plain "LD E,n" 2, plain "RRA" 1]

/-- Primary table, indices 20-2F: R1032-R1047. -/
def primaryEntries2 : List Descriptor := [
  plain "JR NZ,e" 2, plain "LD HL,nn" 3, plain "LD (nn),HL" 3, plain "INC HL" 1,
  plain "INC H" 1, plain "DEC H" 1, plain "LD H,n" 2, plain "DAA" 1,
  plain "JR Z,e" 2, plain "ADD HL,HL" 1, plain "LD HL,(nn)" 3, plain "DEC HL" 1,
  plain "INC L" 1, plain "DEC L" 1, plain "LD L,n" 2, plain "CPL" 1]

/-- Primary table, indices 30-3F: R1048-R1063. -/
def primaryEntries3 : List Descriptor := [
  plain "JR NC,e" 2, plain "LD SP,nn" 3, plain "LD (nn),A" 3, plain "INC SP" 1,
  plain "INC (HL)" 1, plain "DEC (HL)" 1, plain "LD (HL),n" 2, plain "SCF" 1,
  plain "JR C,e" 2, plain "ADD HL,SP" 1, plain "LD A,(nn)" 3, plain "DEC SP" 1,
  plain "INC A" 1, plain "DEC A" 1, plain "LD A,n" 2, plain "CCF" 1]

/-- Primary table, indices 40-4F: R1064-R1079. -/
def primaryEntries4 : List Descriptor := [
  plain "LD B,B" 1, plain "LD B,C" 1, plain "LD B,D" 1, plain "LD B,E" 1,
  plain "LD B,H" 1, plain "LD B,L" 1, plain "LD B,(HL)" 1, plain "LD B,A" 1,
  plain "LD C,B" 1, plain "LD C,C" 1, plain "LD C,D" 1, plain "LD C,E" 1,
  plain "LD C,H" 1, plain "LD C,L" 1, plain "LD C,(HL)" 1, plain "LD C,A" 1]

/-- Primary table, indices 50-5F: R1080-R1095. -/
def primaryEntries5 : List Descriptor := [
  plain "LD D,B" 1, plain "LD D,C" 1, plain "LD D,D" 1, plain "LD D,E" 1,
  plain "LD D,H" 1, plain "LD D,L" 1, plain "LD D,(HL)" 1, plain "LD D,A" 1,
  plain "LD E,B" 1, plain "LD E,C" 1, plain "LD E,D" 1, plain "LD E,E" 1,
  plain "LD E,H" 1, plain "LD E,L" 1, plain "LD E,(HL)" 1, plain "LD E,A" 1]

/-- Primary table, indices 60-6F: R1096-R1111. -/
def primaryEntries6 : List Descriptor := [
  plain "LD H,B" 1, plain "LD H,C" 1, plain "LD H,D" 1, plain "LD H,E" 1,
  plain "LD H,H" 1, plain "LD H,L" 1, plain "LD H,(HL)" 1, plain "LD H,A" 1,
  plain "LD L,B" 1, plain "LD L,C" 1, plain "LD L,D" 1, plain "LD L,E" 1,
  plain "LD L,H" 1, plain "LD L,L" 1, plain "LD L,(HL)" 1, plain "LD L,A" 1]

/-- Primary table, indices 70-7F: R1112-R1127. -/
def primaryEntries7 : List Descriptor := [
  plain "LD (HL),B" 1, plain "LD (HL),C" 1, plain "LD (HL),D" 1, plain "LD (HL),E" 1,
  plain "LD (HL),H" 1, plain "LD (HL),L" 1, plain "HALT" 1, plain "LD (HL),A" 1,
  plain "LD A,B" 1, plain "LD A,C" 1, plain "LD A,D" 1, plain "LD A,E" 1,
  plain "LD A,H" 1, plain "LD A,L" 1, plain "LD A,(HL)" 1, plain "LD A,A" 1]

/-- Primary table, indices 80-8F: R1128-R1143. -/
def primaryEntries8 : List Descriptor := [
  plain "ADD A,B" 1, plain "ADD A,C" 1, plain "ADD A,D" 1, plain "ADD A,E" 1,
  plain "ADD A,H" 1, plain "ADD A,L" 1, plain "ADD A,(HL)" 1, plain "ADD A,A" 1,
  plain "ADC A,B" 1, plain "ADC A,C" 1, plain "ADC A,D" 1, plain "ADC A,E" 1,
  plain "ADC A,H" 1, plain "ADC A,L" 1, plain "ADC A,(HL)" 1, plain "ADC A,A" 1]

/-- Primary table, indices 90-9F: R1144-R1159. -/
def primaryEntries9 : List Descriptor := [
  plain "SUB B" 1, plain "SUB C" 1, plain "SUB D" 1, plain "SUB E" 1,
  plain "SUB H" 1, plain "SUB L" 1, plain "SUB (HL)" 1, plain "SUB A" 1,
  plain "SBC A,B" 1, plain "SBC A,C" 1, plain "SBC A,D" 1, plain "SBC A,E" 1,
  plain "SBC A,H" 1, plain "SBC A,L" 1, plain "SBC A,(HL)" 1, plain "SBC A,A" 1]

/-- Primary table, indices A0-AF: R1160-R1175. -/
def primaryEntriesA : List Descriptor := [
  plain "AND B" 1, plain "AND C" 1, plain "AND D" 1, plain "AND E" 1,
  plain "AND H" 1, plain "AND L" 1, plain "AND (HL)" 1, plain "AND A" 1,
  plain "XOR B" 1, plain "XOR C" 1, plain "XOR D" 1, plain "XOR E" 1,
  plain "XOR H" 1, plain "XOR L" 1, plain "XOR (HL)" 1, plain "XOR A" 1]

/-- Primary table, indices B0-BF: R1176-R1191. -/
def primaryEntriesB : List Descriptor := [
  plain "OR B" 1, plain "OR C" 1, plain "OR D" 1, plain "OR E" 1,
  plain "OR H" 1, plain "OR L" 1, plain "OR (HL)" 1, plain "OR A" 1,
  plain "CP B" 1, plain "CP C" 1, plain "CP D" 1, plain "CP E" 1,
  plain "CP H" 1, plain "CP L" 1, plain "CP (HL)" 1, plain "CP A" 1]

/-- Primary table, indices C0-CF: R1192-R1207. -/
def primaryEntriesC : List Descriptor := [
  plain "RET NZ" 1, plain "POP BC" 1, plain "JP NZ,nn" 3, plain "JP nn" 3,
  plain "CALL NZ,nn" 3, plain "PUSH BC" 1, plain "ADD A,n" 2, plain "RST 00H" 1,
  plain "RET Z" 1, plain "RET" 1, plain "JP Z,nn" 3, prefixTo .cb,
  plain "CALL Z,nn" 3, plain "CALL nn" 3, plain "ADC A,n" 2, plain "RST 08H" 1]

/-- Primary table, indices D0-DF: R1208-R1223. -/
def primaryEntriesD : List Descriptor := [
  plain "RET NC" 1, plain "POP DE" 1, plain "JP NC,nn" 3, plain "OUT (n),A" 2,
  plain "CALL NC,nn" 3, plain "PUSH DE" 1, plain "SUB n" 2, plain "RST 10H" 1,
  plain "RET C" 1, plain "EXX" 1, plain "JP C,nn" 3, plain "IN A,(n)" 2,
  plain "CALL C,nn" 3, prefixTo .dd, plain "SBC A,n" 2, plain "RST 18H" 1]

/-- Primary table, indices E0-EF: R1224-R1239. -/
def primaryEntriesE : List Descriptor := [
  plain "RET PO" 1, plain "POP HL" 1, plain "JP PO,nn" 3, plain "EX (SP),HL" 1,
  plain "CALL PO,nn" 3, plain "PUSH HL" 1, plain "AND n" 2, plain "RST 20H" 1,
  plain "RET PE" 1, plain "JP (HL)" 1, plain "JP PE,nn" 3, plain "EX DE,HL" 1,
  plain "CALL PE,nn" 3, prefixTo .ed, plain "XOR n" 2, plain "RST 28H" 1]

/-- Primary table, indices F0-FF: R1240-R1255. -/
def primaryEntriesF : List Descriptor := [
  plain "RET P" 1, plain "POP AF" 1, plain "JP P,nn" 3, plain "DI" 1,
  plain "CALL P,nn" 3, plain "PUSH AF" 1, plain "OR n" 2, plain "RST 30H" 1,
  plain "RET M" 1, plain "LD SP,HL" 1, plain "JP M,nn" 3, plain "EI" 1,
  plain "CALL M,nn" 3, prefixTo .fd, plain "CP n" 2, plain "RST 38H" 1]

/-- The Primary table, 256 entries. -/
def primaryEntries : List Descriptor := [
  primaryEntries0, primaryEntries1, primaryEntries2, primaryEntries3,
  primaryEntries4, primaryEntries5, primaryEntries6, primaryEntries7,
  primaryEntries8, primaryEntries9, primaryEntriesA, primaryEntriesB,
  primaryEntriesC, primaryEntriesD, primaryEntriesE, primaryEntriesF].flatten

/-- CB table, indices 00-0F: R2000-R2015. -/
def cbEntries0 : List Descriptor := [
  plain "RLC B" 1, plain "RLC C" 1, plain "RLC D" 1, plain "RLC E" 1,
  plain "RLC H" 1, plain "RLC L" 1, plain "RLC (HL)" 1, plain "RLC A" 1,
  plain "RRC B" 1, plain "RRC C" 1, plain "RRC D" 1, plain "RRC E" 1,
  plain "RRC H" 1, plain "RRC L" 1, plain "RRC (HL)" 1, plain "RRC A" 1]

/-- CB table, indices 10-1F: R2016-R2031. -/
def cbEntries1 : List Descriptor := [
  plain "RL B" 1, plain "RL C" 1, plain "RL D" 1, plain "RL E" 1,
  plain "RL H" 1, plain "RL L" 1, plain "RL (HL)" 1, plain "RL A" 1,
  plain "RR B" 1, plain "RR C" 1, plain "RR D" 1, plain "RR E" 1,
  plain "RR H" 1, plain "RR L" 1, plain "RR (HL)" 1, plain "RR A" 1]

/-- CB table, indices 20-2F: R2032-R2047. -/
def cbEntries2 : List Descriptor := [
  plain "SLA B" 1, plain "SLA C" 1, plain "SLA D" 1, plain "SLA E" 1,
  plain "SLA H" 1, plain "SLA L" 1, plain "SLA (HL)" 1, plain "SLA A" 1,
  plain "SRA B" 1, plain "SRA C" 1, plain "SRA D" 1, plain "SRA E" 1,
  plain "SRA H" 1, plain "SRA L" 1, plain "SRA (HL)" 1, plain "SRA A" 1]

/-- CB table, indices 30-3F: R2048-R2063. -/
def cbEntries3 : List Descriptor := [
  plain "SLL B" 1, plain "SLL C" 1, plain "SLL D" 1, plain "SLL E" 1,
  plain "SLL H" 1, plain "SLL L" 1, plain "SLL (HL)" 1, plain "SLL A" 1,
  plain "SRL B" 1, plain "SRL C" 1, plain "SRL D" 1, plain "SRL E" 1,
  plain "SRL H" 1, plain "SRL L" 1, plain "SRL (HL)" 1, plain "SRL A" 1]

/-- CB table, indices 40-4F: R2064-R2079. -/
def cbEntries4 : List Descriptor := [
  plain "BIT 0,B" 1, plain "BIT 0,C" 1, plain "BIT 0,D" 1, plain "BIT 0,E" 1,
  plain "BIT 0,H" 1, plain "BIT 0,L" 1, plain "BIT 0,(HL)" 1, plain "BIT 0,A" 1,
  plain "BIT 1,B" 1, plain "BIT 1,C" 1, plain "BIT 1,D" 1, plain "BIT 1,E" 1,
  plain "BIT 1,H" 1, plain "BIT 1,L" 1, plain "BIT 1,(HL)" 1, plain "BIT 1,A" 1]

/-- CB table, indices 50-5F: R2080-R2095. -/
def cbEntries5 : List Descriptor := [
  plain "BIT 2,B" 1, plain "BIT 2,C" 1, plain "BIT 2,D" 1, plain "BIT 2,E" 1,
  plain "BIT 2,H" 1, plain "BIT 2,L" 1, plain "BIT 2,(HL)" 1, plain "BIT 2,A" 1,
  plain "BIT 3,B" 1, plain "BIT 3,C" 1, plain "BIT 3,D" 1, plain "BIT 3,E" 1,
  plain "BIT 3,H" 1, plain "BIT 3,L" 1, plain "BIT 3,(HL)" 1, plain "BIT 3,A" 1]

/-- CB table, indices 60-6F: R2096-R2111. -/
def cbEntries6 : List Descriptor := [
  plain "BIT 4,B" 1, plain "BIT 4,C" 1, plain "BIT 4,D" 1, plain "BIT 4,E" 1,
  plain "BIT 4,H" 1, plain "BIT 4,L" 1, plain "BIT 4,(HL)" 1, plain "BIT 4,A" 1,
  plain "BIT 5,B" 1, plain "BIT 5,C" 1, plain "BIT 5,D" 1, plain "BIT 5,E" 1,
  plain "BIT 5,H" 1, plain "BIT 5,L" 1, plain "BIT 5,(HL)" 1, plain "BIT 5,A" 1]

/-- CB table, indices 70-7F: R2112-R2127. -/
def cbEntries7 : List Descriptor := [
  plain "BIT 6,B" 1, plain "BIT 6,C" 1, plain "BIT 6,D" 1, plain "BIT 6,E" 1,
  plain "BIT 6,H" 1, plain "BIT 6,L" 1, plain "BIT 6,(HL)" 1, plain "BIT 6,A" 1,
  plain "BIT 7,B" 1, plain "BIT 7,C" 1, plain "BIT 7,D" 1, plain "BIT 7,E" 1,
  plain "BIT 7,H" 1, plain "BIT 7,L" 1, plain "BIT 7,(HL)" 1, plain "BIT 7,A" 1]

/-- CB table, indices 80-8F: R2128-R2143. -/
def cbEntries8 : List Descriptor := [
  plain "RES 0,B" 1, plain "RES 0,C" 1, plain "RES 0,D" 1, plain "RES 0,E" 1,
  plain "RES 0,H" 1, plain "RES 0,L" 1, plain "RES 0,(HL)" 1, plain "RES 0,A" 1,
  plain "RES 1,B" 1, plain "RES 1,C" 1, plain "RES 1,D" 1, plain "RES 1,E" 1,
  plain "RES 1,H" 1, plain "RES 1,L" 1, plain "RES 1,(HL)" 1, plain "RES 1,A" 1]

/-- CB table, indices 90-9F: R2144-R2159. -/
def cbEntries9 : List Descriptor := [
  plain "RES 2,B" 1, plain "RES 2,C" 1, plain "RES 2,D" 1, plain "RES 2,E" 1,
  plain "RES 2,H" 1, plain "RES 2,L" 1, plain "RES 2,(HL)" 1, plain "RES 2,A" 1,
  plain "RES 3,B" 1, plain "RES 3,C" 1, plain "RES 3,D" 1, plain "RES 3,E" 1,
  plain "RES 3,H" 1, plain "RES 3,L" 1, plain "RES 3,(HL)" 1, plain "RES 3,A" 1]

/-- CB table, indices A0-AF: R2160-R2175. -/
def cbEntriesA : List Descriptor := [
  plain "RES 4,B" 1, plain "RES 4,C" 1, plain "RES 4,D" 1, plain "RES 4,E" 1,
  plain "RES 4,H" 1, plain "RES 4,L" 1, plain "RES 4,(HL)" 1, plain "RES 4,A" 1,
  plain "RES 5,B" 1, plain "RES 5,C" 1, plain "RES 5,D" 1, plain "RES 5,E" 1,
  plain "RES 5,H" 1, plain "RES 5,L" 1, plain "RES 5,(HL)" 1, plain "RES 5,A" 1]

/-- CB table, indices B0-BF: R2176-R2191. -/
def cbEntriesB : List Descriptor := [
  plain "RES 6,B" 1, plain "RES 6,C" 1, plain "RES 6,D" 1, plain "RES 6,E" 1,
  plain "RES 6,H" 1, plain "RES 6,L" 1, plain "RES 6,(HL)" 1, plain "RES 6,A" 1,
  plain "RES 7,B" 1, plain "RES 7,C" 1, plain "RES 7,D" 1, plain "RES 7,E" 1,
  plain "RES 7,H" 1, plain "RES 7,L" 1, plain "RES 7,(HL)" 1, plain "RES 7,A" 1]

/-- CB table, indices C0-CF: R2192-R2207. -/
def cbEntriesC : List Descriptor := [
  plain "SET 0,B" 1, plain "SET 0,C" 1, plain "SET 0,D" 1, plain "SET 0,E" 1,
  plain "SET 0,H" 1, plain "SET 0,L" 1, plain "SET 0,(HL)" 1, plain "SET 0,A" 1,
  plain "SET 1,B" 1, plain "SET 1,C" 1, plain "SET 1,D" 1, plain "SET 1,E" 1,
  plain "SET 1,H" 1, plain "SET 1,L" 1, plain "SET 1,(HL)" 1, plain "SET 1,A" 1]

/-- CB table, indices D0-DF: R2208-R2223. -/
def cbEntriesD : List Descriptor := [
  plain "SET 2,B" 1, plain "SET 2,C" 1, plain "SET 2,D" 1, plain "SET 2,E" 1,
  plain "SET 2,H" 1, plain "SET 2,L" 1, plain "SET 2,(HL)" 1, plain "SET 2,A" 1,
  plain "SET 3,B" 1, plain "SET 3,C" 1, plain "SET 3,D" 1, plain "SET 3,E" 1,
  plain "SET 3,H" 1, plain "SET 3,L" 1, plain "SET 3,(HL)" 1, plain "SET 3,A" 1]

/-- CB table, indices E0-EF: R2224-R2239. -/
def cbEntriesE : List Descriptor := [
  plain "SET 4,B" 1, plain "SET 4,C" 1, plain "SET 4,D" 1, plain "SET 4,E" 1,
  plain "SET 4,H" 1, plain "SET 4,L" 1, plain "SET 4,(HL)" 1, plain "SET 4,A" 1,
  plain "SET 5,B" 1, plain "SET 5,C" 1, plain "SET 5,D" 1, plain "SET 5,E" 1,
  plain "SET 5,H" 1, plain "SET 5,L" 1, plain "SET 5,(HL)" 1, plain "SET 5,A" 1]

/-- CB table, indices F0-FF: R2240-R2255. -/
def cbEntriesF : List Descriptor := [
  plain "SET 6,B" 1, plain "SET 6,C" 1, plain "SET 6,D" 1, plain "SET 6,E" 1,
  plain "SET 6,H" 1, plain "SET 6,L" 1, plain "SET 6,(HL)" 1, plain "SET 6,A" 1,
  plain "SET 7,B" 1, plain "SET 7,C" 1, plain "SET 7,D" 1, plain "SET 7,E" 1,
  plain "SET 7,H" 1, plain "SET 7,L" 1, plain "SET 7,(HL)" 1, plain "SET 7,A" 1]

/-- The CB table, 256 entries. -/
def cbEntries : List Descriptor := [
  cbEntries0, cbEntries1, cbEntries2, cbEntries3,
  cbEntries4, cbEntries5, cbEntries6, cbEntries7,
  cbEntries8, cbEntries9, cbEntriesA, cbEntriesB,
  cbEntriesC, cbEntriesD, cbEntriesE, cbEntriesF].flatten

/-- ED table, indices 00-0F: R3000-R3015. -/
def edEntries0 (ph : String) : List Descriptor := [
  placeholder ph 1, placeholder ph 1, placeholder ph 1, placeholder ph 1,
  placeholder ph 1, placeholder ph 1, placeholder ph 1, placeholder ph 1,
  placeholder ph 1, placeholder ph 1, placeholder ph 1, placeholder ph 1,
  placeholder ph 1, placeholder ph 1, placeholder ph 1, placeholder ph 1]

/-- ED table, indices 10-1F: R3016-R3031. -/
def edEntries1 (ph : String) : List Descriptor := [
  placeholder ph 1, placeholder ph 1, placeholder ph 1, placeholder ph 1,
  placeholder ph 1, placeholder ph 1, placeholder ph 1, placeholder ph 1,
  placeholder ph 1, placeholder ph 1, placeholder ph 1, placeholder ph 1,
  placeholder ph 1, placeholder ph 1, placeholder ph 1, placeholder ph 1]

/-- ED table, indices 20-2F: R3032-R3047. -/
def edEntries2 (ph : String) : List Descriptor := [
  placeholder ph 1, placeholder ph 1, placeholder ph 1, placeholder ph 1,
  placeholder ph 1, placeholder ph 1, placeholder ph 1, placeholder ph 1,
  placeholder ph 1, placeholder ph 1, placeholder ph 1, placeholder ph 1,
  placeholder ph 1, placeholder ph 1, placeholder ph 1, placeholder ph 1]

/-- ED table, indices 30-3F: R3048-R3063. -/
def edEntries3 (ph : String) : List Descriptor := [
  placeholder ph 1, placeholder ph 1, placeholder ph 1, placeholder ph 1,
  placeholder ph 1, placeholder ph 1, placeholder ph 1, placeholder ph 1,
  placeholder ph 1, placeholder ph 1, placeholder ph 1, placeholder ph 1,
  placeholder ph 1, placeholder ph 1, placeholder ph 1, placeholder ph 1]

/-- ED table, indices 40-4F: R3064-R3079. -/
def edEntries4 : List Descriptor := [
  plain "IN B,(C)" 1, plain "OUT (C),B" 1, plain "SBC HL,BC" 1, plain "LD (nn),BC" 3,
  plain "NEG" 1, plain "RETN" 1, plain "IM 0" 1, plain "LD I,A" 1,
  plain "IN C,(C)" 1, plain "OUT (C),C" 1, plain "ADC HL,BC" 1, plain "LD BC,(nn)" 3,
  plain "NEG" 1, plain "RETI" 1, plain "IM 0" 1, plain "LD R,A" 1]

/-- ED table, indices 50-5F: R3080-R3095. -/
def edEntries5 : List Descriptor := [
  plain "IN D,(C)" 1, plain "OUT (C),D" 1, plain "SBC HL,DE" 1, plain "LD (nn),DE" 3,
  plain "NEG" 1, plain "RETN" 1, plain "IM 1" 1, plain "LD A,I" 1,
  plain "IN E,(C)" 1, plain "OUT (C),E" 1, plain "ADC HL,DE" 1, plain "LD DE,(nn)" 3,
  plain "NEG" 1, plain "RETN" 1, plain "IM 2" 1, plain "LD A,R" 1]

/-- ED table, indices 60-6F: R3096-R3111. -/
def edEntries6 : List Descriptor := [
  plain "IN H,(C)" 1, plain "OUT (C),H" 1, plain "SBC HL,HL" 1, plain "LD (nn),HL" 3,
  plain "NEG" 1, plain "RETN" 1, plain "IM 0" 1, plain "RRD" 1,
  plain "IN L,(C)" 1, plain "OUT (C),L" 1, plain "ADC HL,HL" 1, plain "LD HL,(nn)" 3,
  plain "NEG" 1, plain "RETN" 1, plain "IM 0" 1, plain "RLD" 1]

/-- ED table, indices 70-7F: R3112-R3127. -/
def edEntries7 (ph : String) : List Descriptor := [
  plain "IN (C)" 1, plain "OUT (C),0" 1, plain "SBC HL,SP" 1, plain "LD (nn),SP" 3,
  plain "NEG" 1, plain "RETN" 1, plain "IM 1" 1, placeholder ph 1,
  plain "IN A,(C)" 1, plain "OUT (C),A" 1, plain "ADC HL,SP" 1, plain "LD SP,(nn)" 3,
  plain "NEG" 1, plain "RETN" 1, plain "IM 2" 1, placeholder ph 1]

/-- ED table, indices 80-8F: R3128-R3143. -/
def edEntries8 (ph : String) : List Descriptor := [
  placeholder ph 1, placeholder ph 1, placeholder ph 1, placeholder ph 1,
  placeholder ph 1, placeholder ph 1, placeholder ph 1, placeholder ph 1,
  placeholder ph 1, placeholder ph 1, placeholder ph 1, placeholder ph 1,
  placeholder ph 1, placeholder ph 1, placeholder ph 1, placeholder ph 1]

/-- ED table, indices 90-9F: R3144-R3159. -/
def edEntries9 (ph : String) : List Descriptor := [
  placeholder ph 1, placeholder ph 1, placeholder ph 1, placeholder ph 1,
  placeholder ph 1, placeholder ph 1, placeholder ph 1, placeholder ph 1,
  placeholder ph 1, placeholder ph 1, placeholder ph 1, placeholder ph 1,
  placeholder ph 1, placeholder ph 1, placeholder ph 1, placeholder ph 1]

/-- ED table, indices A0-AF: R3160-R3175. -/
def edEntriesA (ph : String) : List Descriptor := [
  plain "LDI" 1, plain "CPI" 1, plain "INI" 1, plain "OUTI" 1,
  placeholder ph 1, placeholder ph 1, placeholder ph 1, placeholder ph 1,
  plain "LDD" 1, plain "CPD" 1, plain "IND" 1, plain "OUTD" 1,
  placeholder ph 1, placeholder ph 1, placeholder ph 1, placeholder ph 1]

/-- ED table, indices B0-BF: R3176-R3191. -/
def edEntriesB (ph : String) : List Descriptor := [
  plain "LDIR" 1, plain "CPIR" 1, plain "INIR" 1, plain "OTIR" 1,
  placeholder ph 1, placeholder ph 1, placeholder ph 1, placeholder ph 1,
  plain "LDDR" 1, plain "CPDR" 1, plain "INDR" 1, plain "OTDR" 1,
  placeholder ph 1, placeholder ph 1, placeholder ph 1, placeholder ph 1]

/-- ED table, indices C0-CF: R3192-R3207. -/
def edEntriesC (ph : String) : List Descriptor := [
  placeholder ph 1, placeholder ph 1, placeholder ph 1, placeholder ph 1,
  placeholder ph 1, placeholder ph 1, placeholder ph 1, placeholder ph 1,
  placeholder ph 1, placeholder ph 1, placeholder ph 1, placeholder ph 1,
  placeholder ph 1, placeholder ph 1, placeholder ph 1, placeholder ph 1]

/-- ED table, indices D0-DF: R3208-R3223. -/
def edEntriesD (ph : String) : List Descriptor := [
  placeholder ph 1, placeholder ph 1, placeholder ph 1, placeholder ph 1,
  placeholder ph 1, placeholder ph 1, placeholder ph 1, placeholder ph 1,
  placeholder ph 1, placeholder ph 1, placeholder ph 1, placeholder ph 1,
  placeholder ph 1, placeholder ph 1, placeholder ph 1, placeholder ph 1]

/-- ED table, indices E0-EF: R3224-R3239. -/
def edEntriesE (ph : String) : List Descriptor := [
  placeholder ph 1, placeholder ph 1, placeholder ph 1, placeholder ph 1,
  placeholder ph 1, placeholder ph 1, placeholder ph 1, placeholder ph 1,
  placeholder ph 1, placeholder ph 1, placeholder ph 1, placeholder ph 1,
  placeholder ph 1, placeholder ph 1, placeholder ph 1, placeholder ph 1]

/-- ED table, indices F0-FF: R3240-R3255. -/
def edEntriesF (ph : String) : List Descriptor := [
  placeholder ph 1, placeholder ph 1, placeholder ph 1, placeholder ph 1,
  placeholder ph 1, placeholder ph 1, placeholder ph 1, placeholder ph 1,
  placeholder ph 1, placeholder ph 1, placeholder ph 1, placeholder ph 1,
  placeholder ph 1, placeholder ph 1, placeholder ph 1, placeholder ph 1]

/-- The ED table, 256 entries. -/
def edEntries (ph : String) : List Descriptor := [
  edEntries0 ph, edEntries1 ph, edEntries2 ph, edEntries3 ph,
  edEntries4, edEntries5, edEntries6, edEntries7 ph,
  edEntries8 ph, edEntries9 ph, edEntriesA ph, edEntriesB ph,
  edEntriesC ph, edEntriesD ph, edEntriesE ph, edEntriesF ph].flatten

/-- DD table (index register IX), indices 00-0F: R4000-R4015. -/
def ddEntries0 : List Descriptor := [
  plain "NOP" 1, plain "LD BC,nn" 3, plain "LD (BC),A" 1, plain "INC BC" 1,
  plain "INC B" 1, plain "DEC B" 1, plain "LD B,n" 2, plain "RLCA" 1,
  plain "EX AF,AF'" 1, plain "ADD IX,BC" 1, plain "LD A,(BC)" 1, plain "DEC BC" 1,
  plain "INC C" 1, plain "DEC C" 1, plain "LD C,n" 2, plain "RRCA" 1]

/-- DD table (index register IX), indices 10-1F: R4016-R4031. -/
def ddEntries1 : List Descriptor := [
  plain "DJNZ e" 2, plain "LD DE,nn" 3, plain "LD (DE),A" 1, plain "INC DE" 1,
  plain "INC D" 1, plain "DEC D" 1, plain "LD D,n" 2, plain "RLA" 1,
  plain "JR e" 2, plain "ADD IX,DE" 1, plain "LD A,(DE)" 1, plain "DEC DE" 1,
  plain "INC E" 1, plain "DEC E" 1, plain "LD E,n" 2, plain "RRA" 1]

/-- DD table (index register IX), indices 20-2F: R4032-R4047. -/
def ddEntries2 : List Descriptor := [
  plain "JR NZ,e" 2, plain "LD IX,nn" 3, plain "LD (nn),IX" 3, plain "INC IX" 1,
  plain "INC IXH" 1, plain "DEC IXH" 1, plain "LD IXH,n" 2, plain "DAA" 1,
  plain "JR Z,e" 2, plain "ADD IX,IX" 1, plain "LD IX,(nn)" 3, plain "DEC IX" 1,
  plain "INC IXL" 1, plain "DEC IXL" 1, plain "LD IXL,n" 2, plain "CPL" 1]

/-- DD table (index register IX), indices 30-3F: R4048-R4063. -/
def ddEntries3 : List Descriptor := [
  plain "JR NC,e" 2, plain "LD SP,nn" 3, plain "LD (nn),A" 3, plain "INC SP" 1,
  plain "INC (IX+d)" 2, plain "DEC (IX+d)" 2, plain "LD (IX+d),n" 3, plain "SCF" 1,
  plain "JR C,e" 2, plain "ADD IX,SP" 1, plain "LD A,(nn)" 3, plain "DEC SP" 1,
  plain "INC A" 1, plain "DEC A" 1, plain "LD A,n" 2, plain "CCF" 1]

/-- DD table (index register IX), indices 40-4F: R4064-R4079. -/
def ddEntries4 : List Descriptor := [
  plain "LD B,B" 1, plain "LD B,C" 1, plain "LD B,D" 1, plain "LD B,E" 1,
  plain "LD B,IXH" 1, plain "LD B,IXL" 1, plain "LD B,(IX+d)" 2, plain "LD B,A" 1,
  plain "LD C,B" 1, plain "LD C,C" 1, plain "LD C,D" 1, plain "LD C,E" 1,
  plain "LD C,IXH" 1, plain "LD C,IXL" 1, plain "LD C,(IX+d)" 2, plain "LD C,A" 1]

/-- DD table (index register IX), indices 50-5F: R4080-R4095. -/
def ddEntries5 : List Descriptor := [
  plain "LD D,B" 1, plain "LD D,C" 1, plain "LD D,D" 1, plain "LD D,E" 1,
  plain "LD D,IXH" 1, plain "LD D,IXL" 1, plain "LD D,(IX+d)" 2, plain "LD D,A" 1,
  plain "LD E,B" 1, plain "LD E,C" 1, plain "LD E,D" 1, plain "LD E,E" 1,
  plain "LD E,IXH" 1, plain "LD E,IXL" 1, plain "LD E,(IX+d)" 2, plain "LD E,A" 1]

/-- DD table (index register IX), indices 60-6F: R4096-R4111. -/
def ddEntries6 : List Descriptor := [
  plain "LD IXH,B" 1, plain "LD IXH,C" 1, plain "LD IXH,D" 1, plain "LD IXH,E" 1,
  plain "LD IXH,IXH" 1, plain "LD IXH,IXL" 1, plain "LD H,(IX+d)" 2, plain "LD IXH,A" 1,
  plain "LD IXL,B" 1, plain "LD IXL,C" 1, plain "LD IXL,D" 1, plain "LD IXL,E" 1,
  plain "LD IXL,IXH" 1, plain "LD IXL,IXL" 1, plain "LD L,(IX+d)" 2, plain "LD IXL,A" 1]

/-- DD table (index register IX), indices 70-7F: R4112-R4127. -/
def ddEntries7 : List Descriptor := [
  plain "LD (IX+d),B" 2, plain "LD (IX+d),C" 2, plain "LD (IX+d),D" 2, plain "LD (IX+d),E" 2,
  plain "LD (IX+d),H" 2, plain "LD (IX+d),L" 2, plain "HALT" 1, plain "LD (IX+d),A" 2,
  plain "LD A,B" 1, plain "LD A,C" 1, plain "LD A,D" 1, plain "LD A,E" 1,
  plain "LD A,IXH" 1, plain "LD A,IXL" 1, plain "LD A,(IX+d)" 2, plain "LD A,A" 1]

/-- DD table (index register IX), indices 80-8F: R4128-R4143. -/
def ddEntries8 : List Descriptor := [
  plain "ADD A,B" 1, plain "ADD A,C" 1, plain "ADD A,D" 1, plain "ADD A,E" 1,
  plain "ADD A,IXH" 1, plain "ADD A,IXL" 1, plain "ADD A,(IX+d)" 2, plain "ADD A,A" 1,
  plain "ADC A,B" 1, plain "ADC A,C" 1, plain "ADC A,D" 1, plain "ADC A,E" 1,
  plain "ADC A,IXH" 1, plain "ADC A,IXL" 1, plain "ADC A,(IX+d)" 2, plain "ADC A,A" 1]

/-- DD table (index register IX), indices 90-9F: R4144-R4159. -/
def ddEntries9 : List Descriptor := [
  plain "SUB B" 1, plain "SUB C" 1, plain "SUB D" 1, plain "SUB E" 1,
  plain "SUB IXH" 1, plain "SUB IXL" 1, plain "SUB (IX+d)" 2, plain "SUB A" 1,
  plain "SBC A,B" 1, plain "SBC A,C" 1, plain "SBC A,D" 1, plain "SBC A,E" 1,
  plain "SBC A,IXH" 1, plain "SBC A,IXL" 1, plain "SBC A,(IX+d)" 2, plain "SBC A,A" 1]

/-- DD table (index register IX), indices A0-AF: R4160-R4175. -/
def ddEntriesA : List Descriptor := [
  plain "AND B" 1, plain "AND C" 1, plain "AND D" 1, plain "AND E" 1,
  plain "AND IXH" 1, plain "AND IXL" 1, plain "AND (IX+d)" 2, plain "AND A" 1,
  plain "XOR B" 1, plain "XOR C" 1, plain "XOR D" 1, plain "XOR E" 1,
  plain "XOR IXH" 1, plain "XOR IXL" 1, plain "XOR (IX+d)" 2, plain "XOR A" 1]

/-- DD table (index register IX), indices B0-BF: R4176-R4191. -/
def ddEntriesB : List Descriptor := [
  plain "OR B" 1, plain "OR C" 1, plain "OR D" 1, plain "OR E" 1,
  plain "OR IXH" 1, plain "OR IXL" 1, plain "OR (IX+d)" 2, plain "OR A" 1,
  plain "CP B" 1, plain "CP C" 1, plain "CP D" 1, plain "CP E" 1,
  plain "CP IXH" 1, plain "CP IXL" 1, plain "CP (IX+d)" 2, plain "CP A" 1]

/-- DD table (index register IX), indices C0-CF: R4192-R4207. -/
def ddEntriesC : List Descriptor := [
  plain "RET NZ" 1, plain "POP BC" 1, plain "JP NZ,nn" 3, plain "JP nn" 3,
  plain "CALL NZ,nn" 3, plain "PUSH BC" 1, plain "ADD A,n" 2, plain "RST 00H" 1,
  plain "RET Z" 1, plain "RET" 1, plain "JP Z,nn" 3, displacedPrefixTo .ddcb,
  plain "CALL Z,nn" 3, plain "CALL nn" 3, plain "ADC A,n" 2, plain "RST 08H" 1]

/-- DD table (index register IX), indices D0-DF: R4208-R4223. -/
def ddEntriesD (ph : String) : List Descriptor := [
  plain "RET NC" 1, plain "POP DE" 1, plain "JP NC,nn" 3, plain "OUT (n),A" 2,
  plain "CALL NC,nn" 3, plain "PUSH DE" 1, plain "SUB n" 2, plain "RST 10H" 1,
  plain "RET C" 1, plain "EXX" 1, plain "JP C,nn" 3, plain "IN A,(n)" 2,
  plain "CALL C,nn" 3, placeholder ph 1, plain "SBC A,n" 2, plain "RST 18H" 1]

/-- DD table (index register IX), indices E0-EF: R4224-R4239. -/
def ddEntriesE (ph : String) : List Descriptor := [
  plain "RET PO" 1, plain "POP IX" 1, plain "JP PO,nn" 3, plain "EX (SP),IX" 1,
  plain "CALL PO,nn" 3, plain "PUSH IX" 1, plain "AND n" 2, plain "RST 20H" 1,
  plain "RET PE" 1, plain "JP (IX)" 1, plain "JP PE,nn" 3, plain "EX DE,HL" 1,
  plain "CALL PE,nn" 3, placeholder ph 1, plain "XOR n" 2, plain "RST 28H" 1]

/-- DD table (index register IX), indices F0-FF: R4240-R4255. -/
def ddEntriesF (ph : String) : List Descriptor := [
  plain "RET P" 1, plain "POP AF" 1, plain "JP P,nn" 3, plain "DI" 1,
  plain "CALL P,nn" 3, plain "PUSH AF" 1, plain "OR n" 2, plain "RST 30H" 1,
  plain "RET M" 1, plain "LD SP,IX" 1, plain "JP M,nn" 3, plain "EI" 1,
  plain "CALL M,nn" 3, placeholder ph 1, plain "CP n" 2, plain "RST 38H" 1]

/-- The DD table (index register IX), 256 entries. -/
def ddEntries (ph : String) : List Descriptor := [
  ddEntries0, ddEntries1, ddEntries2, ddEntries3,
  ddEntries4, ddEntries5, ddEntries6, ddEntries7,
  ddEntries8, ddEntries9, ddEntriesA, ddEntriesB,
  ddEntriesC, ddEntriesD ph, ddEntriesE ph, ddEntriesF ph].flatten

/-- FD table (index register IY), indices 00-0F: R5000-R5015. -/
def fdEntries0 : List Descriptor := [
  plain "NOP" 1, plain "LD BC,nn" 3, plain "LD (BC),A" 1, plain "INC BC" 1,
  plain "INC B" 1, plain "DEC B" 1, plain "LD B,n" 2, plain "RLCA" 1,
  plain "EX AF,AF'" 1, plain "ADD IY,BC" 1, plain "LD A,(BC)" 1, plain "DEC BC" 1,
  plain "INC C" 1, plain "DEC C" 1, plain "LD C,n" 2, plain "RRCA" 1]

/-- FD table (index register IY), indices 10-1F: R5016-R5031. -/
def fdEntries1 : List Descriptor := [
  plain "DJNZ e" 2, plain "LD DE,nn" 3, plain "LD (DE),A" 1, plain "INC DE" 1,
  plain "INC D" 1, plain "DEC D" 1, plain "LD D,n" 2, plain "RLA" 1,
  plain "JR e" 2, plain "ADD IY,DE" 1, plain "LD A,(DE)" 1, plain "DEC DE" 1,
  plain "INC E" 1, plain "DEC E" 1, plain "LD E,n" 2, plain "RRA" 1]

/-- FD table (index register IY), indices 20-2F: R5032-R5047. -/
def fdEntries2 : List Descriptor := [
  plain "JR NZ,e" 2, plain "LD IY,nn" 3, plain "LD (nn),IY" 3, plain "INC IY" 1,
  plain "INC IYH" 1, plain "DEC IYH" 1, plain "LD IYH,n" 2, plain "DAA" 1,
  plain "JR Z,e" 2, plain "ADD IY,IY" 1, plain "LD IY,(nn)" 3, plain "DEC IY" 1,
  plain "INC IYL" 1, plain "DEC IYL" 1, plain "LD IYL,n" 2, plain "CPL" 1]

/-- FD table (index register IY), indices 30-3F: R5048-R5063. -/
def fdEntries3 : List Descriptor := [
  plain "JR NC,e" 2, plain "LD SP,nn" 3, plain "LD (nn),A" 3, plain "INC SP" 1,
  plain "INC (IY+d)" 2, plain "DEC (IY+d)" 2, plain "LD (IY+d),n" 3, plain "SCF" 1,
  plain "JR C,e" 2, plain "ADD IY,SP" 1, plain "LD A,(nn)" 3, plain "DEC SP" 1,
  plain "INC A" 1, plain "DEC A" 1, plain "LD A,n" 2, plain "CCF" 1]

/-- FD table (index register IY), indices 40-4F: R5064-R5079. -/
def fdEntries4 : List Descriptor := [
  plain "LD B,B" 1, plain "LD B,C" 1, plain "LD B,D" 1, plain "LD B,E" 1,
  plain "LD B,IYH" 1, plain "LD B,IYL" 1, plain "LD B,(IY+d)" 2, plain "LD B,A" 1,
  plain "LD C,B" 1, plain "LD C,C" 1, plain "LD C,D" 1, plain "LD C,E" 1,
  plain "LD C,IYH" 1, plain "LD C,IYL" 1, plain "LD C,(IY+d)" 2, plain "LD C,A" 1]

/-- FD table (index register IY), indices 50-5F: R5080-R5095. -/
def fdEntries5 : List Descriptor := [
  plain "LD D,B" 1, plain "LD D,C" 1, plain "LD D,D" 1, plain "LD D,E" 1,
  plain "LD D,IYH" 1, plain "LD D,IYL" 1, plain "LD D,(IY+d)" 2, plain "LD D,A" 1,
  plain "LD E,B" 1, plain "LD E,C" 1, plain "LD E,D" 1, plain "LD E,E" 1,
  plain "LD E,IYH" 1, plain "LD E,IYL" 1, plain "LD E,(IY+d)" 2, plain "LD E,A" 1]

/-- FD table (index register IY), indices 60-6F: R5096-R5111. -/
def fdEntries6 : List Descriptor := [
  plain "LD IYH,B" 1, plain "LD IYH,C" 1, plain "LD IYH,D" 1, plain "LD IYH,E" 1,
  plain "LD IYH,IYH" 1, plain "LD IYH,IYL" 1, plain "LD H,(IY+d)" 2, plain "LD IYH,A" 1,
  plain "LD IYL,B" 1, plain "LD IYL,C" 1, plain "LD IYL,D" 1, plain "LD IYL,E" 1,
  plain "LD IYL,IYH" 1, plain "LD IYL,IYL" 1, plain "LD L,(IY+d)" 2, plain "LD IYL,A" 1]

/-- FD table (index register IY), indices 70-7F: R5112-R5127. -/
def fdEntries7 : List Descriptor := [
  plain "LD (IY+d),B" 2, plain "LD (IY+d),C" 2, plain "LD (IY+d),D" 2, plain "LD (IY+d),E" 2,
  plain "LD (IY+d),H" 2, plain "LD (IY+d),L" 2, plain "HALT" 1, plain "LD (IY+d),A" 2,
  plain "LD A,B" 1, plain "LD A,C" 1, plain "LD A,D" 1, plain "LD A,E" 1,
  plain "LD A,IYH" 1, plain "LD A,IYL" 1, plain "LD A,(IY+d)" 2, plain "LD A,A" 1]

/-- FD table (index register IY), indices 80-8F: R5128-R5143. -/
def fdEntries8 : List Descriptor := [
  plain "ADD A,B" 1, plain "ADD A,C" 1, plain "ADD A,D" 1, plain "ADD A,E" 1,
  plain "ADD A,IYH" 1, plain "ADD A,IYL" 1, plain "ADD A,(IY+d)" 2, plain "ADD A,A" 1,
  plain "ADC A,B" 1, plain "ADC A,C" 1, plain "ADC A,D" 1, plain "ADC A,E" 1,
  plain "ADC A,IYH" 1, plain "ADC A,IYL" 1, plain "ADC A,(IY+d)" 2, plain "ADC A,A" 1]

/-- FD table (index register IY), indices 90-9F: R5144-R5159. -/
def fdEntries9 : List Descriptor := [
  plain "SUB B" 1, plain "SUB C" 1, plain "SUB D" 1, plain "SUB E" 1,
  plain "SUB IYH" 1, plain "SUB IYL" 1, plain "SUB (IY+d)" 2, plain "SUB A" 1,
  plain "SBC A,B" 1, plain "SBC A,C" 1, plain "SBC A,D" 1, plain "SBC A,E" 1,
  plain "SBC A,IYH" 1, plain "SBC A,IYL" 1, plain "SBC A,(IY+d)" 2, plain "SBC A,A" 1]

/-- FD table (index register IY), indices A0-AF: R5160-R5175. -/
def fdEntriesA : List Descriptor := [
  plain "AND B" 1, plain "AND C" 1, plain "AND D" 1, plain "AND E" 1,
  plain "AND IYH" 1, plain "AND IYL" 1, plain "AND (IY+d)" 2, plain "AND A" 1,
  plain "XOR B" 1, plain "XOR C" 1, plain "XOR D" 1, plain "XOR E" 1,
  plain "XOR IYH" 1, plain "XOR IYL" 1, plain "XOR (IY+d)" 2, plain "XOR A" 1]

/-- FD table (index register IY), indices B0-BF: R5176-R5191. -/
def fdEntriesB : List Descriptor := [
  plain "OR B" 1, plain "OR C" 1, plain "OR D" 1, plain "OR E" 1,
  plain "OR IYH" 1, plain "OR IYL" 1, plain "OR (IY+d)" 2, plain "OR A" 1,
  plain "CP B" 1, plain "CP C" 1, plain "CP D" 1, plain "CP E" 1,
  plain "CP IYH" 1, plain "CP IYL" 1, plain "CP (IY+d)" 2, plain "CP A" 1]

/-- FD table (index register IY), indices C0-CF: R5192-R5207. -/
def fdEntriesC : List Descriptor := [
  plain "RET NZ" 1, plain "POP BC" 1, plain "JP NZ,nn" 3, plain "JP nn" 3,
  plain "CALL NZ,nn" 3, plain "PUSH BC" 1, plain "ADD A,n" 2, plain "RST 00H" 1,
  plain "RET Z" 1, plain "RET" 1, plain "JP Z,nn" 3, displacedPrefixTo .fdcb,
  plain "CALL Z,nn" 3, plain "CALL nn" 3, plain "ADC A,n" 2, plain "RST 08H" 1]

/-- FD table (index register IY), indices D0-DF: R5208-R5223. -/
def fdEntriesD (ph : String) : List Descriptor := [
  plain "RET NC" 1, plain "POP DE" 1, plain "JP NC,nn" 3, plain "OUT (n),A" 2,
  plain "CALL NC,nn" 3, plain "PUSH DE" 1, plain "SUB n" 2, plain "RST 10H" 1,
  plain "RET C" 1, plain "EXX" 1, plain "JP C,nn" 3, plain "IN A,(n)" 2,
  plain "CALL C,nn" 3, placeholder ph 1, plain "SBC A,n" 2, plain "RST 18H" 1]

/-- FD table (index register IY), indices E0-EF: R5224-R5239. -/
def fdEntriesE (ph : String) : List Descriptor := [
  plain "RET PO" 1, plain "POP IY" 1, plain "JP PO,nn" 3, plain "EX (SP),IY" 1,
  plain "CALL PO,nn" 3, plain "PUSH IY" 1, plain "AND n" 2, plain "RST 20H" 1,
  plain "RET PE" 1, plain "JP (IY)" 1, plain "JP PE,nn" 3, plain "EX DE,HL" 1,
  plain "CALL PE,nn" 3, placeholder ph 1, plain "XOR n" 2, plain "RST 28H" 1]

/-- FD table (index register IY), indices F0-FF: R5240-R5255. -/
def fdEntriesF (ph : String) : List Descriptor := [
  plain "RET P" 1, plain "POP AF" 1, plain "JP P,nn" 3, plain "DI" 1,
  plain "CALL P,nn" 3, plain "PUSH AF" 1, plain "OR n" 2, plain "RST 30H" 1,
  plain "RET M" 1, plain "LD SP,IY" 1, plain "JP M,nn" 3, plain "EI" 1,
  plain "CALL M,nn" 3, placeholder ph 1, plain "CP n" 2, plain "RST 38H" 1]

/-- The FD table (index register IY), 256 entries. -/
def fdEntries (ph : String) : List Descriptor := [
  fdEntries0, fdEntries1, fdEntries2, fdEntries3,
  fdEntries4, fdEntries5, fdEntries6, fdEntries7,
  fdEntries8, fdEntries9, fdEntriesA, fdEntriesB,
  fdEntriesC, fdEntriesD ph, fdEntriesE ph, fdEntriesF ph].flatten

/-- DD CB displaced table, indices 00-0F: R6000-R6015. -/
def ddcbEntries0 : List Descriptor := [
  plain "RLC (IX+d),B" 2, plain "RLC (IX+d),C" 2, plain "RLC (IX+d),D" 2, plain "RLC (IX+d),E" 2,
  plain "RLC (IX+d),H" 2, plain "RLC (IX+d),L" 2, plain "RLC (IX+d)" 2, plain "RLC (IX+d),A" 2,
  plain "RRC (IX+d),B" 2, plain "RRC (IX+d),C" 2, plain "RRC (IX+d),D" 2, plain "RRC (IX+d),E" 2,
  plain "RRC (IX+d),H" 2, plain "RRC (IX+d),L" 2, plain "RRC (IX+d)" 2, plain "RRC (IX+d),A" 2]

/-- DD CB displaced table, indices 10-1F: R6016-R6031. -/
def ddcbEntries1 : List Descriptor := [
  plain "RL (IX+d),B" 2, plain "RL (IX+d),C" 2, plain "RL (IX+d),D" 2, plain "RL (IX+d),E" 2,
  plain "RL (IX+d),H" 2, plain "RL (IX+d),L" 2, plain "RL (IX+d)" 2, plain "RL (IX+d),A" 2,
  plain "RR (IX+d),B" 2, plain "RR (IX+d),C" 2, plain "RR (IX+d),D" 2, plain "RR (IX+d),E" 2,
  plain "RR (IX+d),H" 2, plain "RR (IX+d),L" 2, plain "RR (IX+d)" 2, plain "RR (IX+d),A" 2]

/-- DD CB displaced table, indices 20-2F: R6032-R6047. -/
def ddcbEntries2 : List Descriptor := [
  plain "SLA (IX+d),B" 2, plain "SLA (IX+d),C" 2, plain "SLA (IX+d),D" 2, plain "SLA (IX+d),E" 2,
  plain "SLA (IX+d),H" 2, plain "SLA (IX+d),L" 2, plain "SLA (IX+d)" 2, plain "SLA (IX+d),A" 2,
  plain "SRA (IX+d),B" 2, plain "SRA (IX+d),C" 2, plain "SRA (IX+d),D" 2, plain "SRA (IX+d),E" 2,
  plain "SRA (IX+d),H" 2, plain "SRA (IX+d),L" 2, plain "SRA (IX+d)" 2, plain "SRA (IX+d),A" 2]

/-- DD CB displaced table, indices 30-3F: R6048-R6063. -/
def ddcbEntries3 : List Descriptor := [
  plain "SLL (IX+d),B" 2, plain "SLL (IX+d),C" 2, plain "SLL (IX+d),D" 2, plain "SLL (IX+d),E" 2,
  plain "SLL (IX+d),H" 2, plain "SLL (IX+d),L" 2, plain "SLL (IX+d)" 2, plain "SLL (IX+d),A" 2,
  plain "SRL (IX+d),B" 2, plain "SRL (IX+d),C" 2, plain "SRL (IX+d),D" 2, plain "SRL (IX+d),E" 2,
  plain "SRL (IX+d),H" 2, plain "SRL (IX+d),L" 2, plain "SRL (IX+d)" 2, plain "SRL (IX+d),A" 2]

/-- DD CB displaced table, indices 40-4F: R6064-R6079. -/
def ddcbEntries4 : List Descriptor := [
  plain "BIT 0,(IX+d)" 2, plain "BIT 0,(IX+d)" 2, plain "BIT 0,(IX+d)" 2, plain "BIT 0,(IX+d)" 2,
  plain "BIT 0,(IX+d)" 2, plain "BIT 0,(IX+d)" 2, plain "BIT 0,(IX+d)" 2, plain "BIT 0,(IX+d)" 2,
  plain "BIT 1,(IX+d)" 2, plain "BIT 1,(IX+d)" 2, plain "BIT 1,(IX+d)" 2, plain "BIT 1,(IX+d)" 2,
  plain "BIT 1,(IX+d)" 2, plain "BIT 1,(IX+d)" 2, plain "BIT 1,(IX+d)" 2, plain "BIT 1,(IX+d)" 2]

/-- DD CB displaced table, indices 50-5F: R6080-R6095. -/
def ddcbEntries5 : List Descriptor := [
  plain "BIT 2,(IX+d)" 2, plain "BIT 2,(IX+d)" 2, plain "BIT 2,(IX+d)" 2, plain "BIT 2,(IX+d)" 2,
  plain "BIT 2,(IX+d)" 2, plain "BIT 2,(IX+d)" 2, plain "BIT 2,(IX+d)" 2, plain "BIT 2,(IX+d)" 2,
  plain "BIT 3,(IX+d)" 2, plain "BIT 3,(IX+d)" 2, plain "BIT 3,(IX+d)" 2, plain "BIT 3,(IX+d)" 2,
  plain "BIT 3,(IX+d)" 2, plain "BIT 3,(IX+d)" 2, plain "BIT 3,(IX+d)" 2, plain "BIT 3,(IX+d)" 2]

/-- DD CB displaced table, indices 60-6F: R6096-R6111. -/
def ddcbEntries6 : List Descriptor := [
  plain "BIT 4,(IX+d)" 2, plain "BIT 4,(IX+d)" 2, plain "BIT 4,(IX+d)" 2, plain "BIT 4,(IX+d)" 2,
  plain "BIT 4,(IX+d)" 2, plain "BIT 4,(IX+d)" 2, plain "BIT 4,(IX+d)" 2, plain "BIT 4,(IX+d)" 2,
  plain "BIT 5,(IX+d)" 2, plain "BIT 5,(IX+d)" 2, plain "BIT 5,(IX+d)" 2, plain "BIT 5,(IX+d)" 2,
  plain "BIT 5,(IX+d)" 2, plain "BIT 5,(IX+d)" 2, plain "BIT 5,(IX+d)" 2, plain "BIT 5,(IX+d)" 2]

/-- DD CB displaced table, indices 70-7F: R6112-R6127. -/
def ddcbEntries7 : List Descriptor := [
  plain "BIT 6,(IX+d)" 2, plain "BIT 6,(IX+d)" 2, plain "BIT 6,(IX+d)" 2, plain "BIT 6,(IX+d)" 2,
  plain "BIT 6,(IX+d)" 2, plain "BIT 6,(IX+d)" 2, plain "BIT 6,(IX+d)" 2, plain "BIT 6,(IX+d)" 2,
  plain "BIT 7,(IX+d)" 2, plain "BIT 7,(IX+d)" 2, plain "BIT 7,(IX+d)" 2, plain "BIT 7,(IX+d)" 2,
  plain "BIT 7,(IX+d)" 2, plain "BIT 7,(IX+d)" 2, plain "BIT 7,(IX+d)" 2, plain "BIT 7,(IX+d)" 2]

/-- DD CB displaced table, indices 80-8F: R6128-R6143. -/
def ddcbEntries8 : List Descriptor := [
  plain "RES 0,(IX+d),B" 2, plain "RES 0,(IX+d),C" 2, plain "RES 0,(IX+d),D" 2, plain "RES 0,(IX+d),E" 2,
  plain "RES 0,(IX+d),H" 2, plain "RES 0,(IX+d),L" 2, plain "RES 0,(IX+d)" 2, plain "RES 0,(IX+d),A" 2,
  plain "RES 1,(IX+d),B" 2, plain "RES 1,(IX+d),C" 2, plain "RES 1,(IX+d),D" 2, plain "RES 1,(IX+d),E" 2,
  plain "RES 1,(IX+d),H" 2, plain "RES 1,(IX+d),L" 2, plain "RES 1,(IX+d)" 2, plain "RES 1,(IX+d),A" 2]

/-- DD CB displaced table, indices 90-9F: R6144-R6159. -/
def ddcbEntries9 : List Descriptor := [
  plain "RES 2,(IX+d),B" 2, plain "RES 2,(IX+d),C" 2, plain "RES 2,(IX+d),D" 2, plain "RES 2,(IX+d),E" 2,
  plain "RES 2,(IX+d),H" 2, plain "RES 2,(IX+d),L" 2, plain "RES 2,(IX+d)" 2, plain "RES 2,(IX+d),A" 2,
  plain "RES 3,(IX+d),B" 2, plain "RES 3,(IX+d),C" 2, plain "RES 3,(IX+d),D" 2, plain "RES 3,(IX+d),E" 2,
  plain "RES 3,(IX+d),H" 2, plain "RES 3,(IX+d),L" 2, plain "RES 3,(IX+d)" 2, plain "RES 3,(IX+d),A" 2]

/-- DD CB displaced table, indices A0-AF: R6160-R6175. -/
def ddcbEntriesA : List Descriptor := [
  plain "RES 4,(IX+d),B" 2, plain "RES 4,(IX+d),C" 2, plain "RES 4,(IX+d),D" 2, plain "RES 4,(IX+d),E" 2,
  plain "RES 4,(IX+d),H" 2, plain "RES 4,(IX+d),L" 2, plain "RES 4,(IX+d)" 2, plain "RES 4,(IX+d),A" 2,
  plain "RES 5,(IX+d),B" 2, plain "RES 5,(IX+d),C" 2, plain "RES 5,(IX+d),D" 2, plain "RES 5,(IX+d),E" 2,
  plain "RES 5,(IX+d),H" 2, plain "RES 5,(IX+d),L" 2, plain "RES 5,(IX+d)" 2, plain "RES 5,(IX+d),A" 2]

/-- DD CB displaced table, indices B0-BF: R6176-R6191. -/
def ddcbEntriesB : List Descriptor := [
  plain "RES 6,(IX+d),B" 2, plain "RES 6,(IX+d),C" 2, plain "RES 6,(IX+d),D" 2, plain "RES 6,(IX+d),E" 2,
  plain "RES 6,(IX+d),H" 2, plain "RES 6,(IX+d),L" 2, plain "RES 6,(IX+d)" 2, plain "RES 6,(IX+d),A" 2,
  plain "RES 7,(IX+d),B" 2, plain "RES 7,(IX+d),C" 2, plain "RES 7,(IX+d),D" 2, plain "RES 7,(IX+d),E" 2,
  plain "RES 7,(IX+d),H" 2, plain "RES 7,(IX+d),L" 2, plain "RES 7,(IX+d)" 2, plain "RES 7,(IX+d),A" 2]

/-- DD CB displaced table, indices C0-CF: R6192-R6207. -/
def ddcbEntriesC : List Descriptor := [
  plain "SET 0,(IX+d),B" 2, plain "SET 0,(IX+d),C" 2, plain "SET 0,(IX+d),D" 2, plain "SET 0,(IX+d),E" 2,
  plain "SET 0,(IX+d),H" 2, plain "SET 0,(IX+d),L" 2, plain "SET 0,(IX+d)" 2, plain "SET 0,(IX+d),A" 2,
  plain "SET 1,(IX+d),B" 2, plain "SET 1,(IX+d),C" 2, plain "SET 1,(IX+d),D" 2, plain "SET 1,(IX+d),E" 2,
  plain "SET 1,(IX+d),H" 2, plain "SET 1,(IX+d),L" 2, plain "SET 1,(IX+d)" 2, plain "SET 1,(IX+d),A" 2]

/-- DD CB displaced table, indices D0-DF: R6208-R6223. -/
def ddcbEntriesD : List Descriptor := [
  plain "SET 2,(IX+d),B" 2, plain "SET 2,(IX+d),C" 2, plain "SET 2,(IX+d),D" 2, plain "SET 2,(IX+d),E" 2,
  plain "SET 2,(IX+d),H" 2, plain "SET 2,(IX+d),L" 2, plain "SET 2,(IX+d)" 2, plain "SET 2,(IX+d),A" 2,
  plain "SET 3,(IX+d),B" 2, plain "SET 3,(IX+d),C" 2, plain "SET 3,(IX+d),D" 2, plain "SET 3,(IX+d),E" 2,
  plain "SET 3,(IX+d),H" 2, plain "SET 3,(IX+d),L" 2, plain "SET 3,(IX+d)" 2, plain "SET 3,(IX+d),A" 2]

/-- DD CB displaced table, indices E0-EF: R6224-R6239. -/
def ddcbEntriesE : List Descriptor := [
  plain "SET 4,(IX+d),B" 2, plain "SET 4,(IX+d),C" 2, plain "SET 4,(IX+d),D" 2, plain "SET 4,(IX+d),E" 2,
  plain "SET 4,(IX+d),H" 2, plain "SET 4,(IX+d),L" 2, plain "SET 4,(IX+d)" 2, plain "SET 4,(IX+d),A" 2,
  plain "SET 5,(IX+d),B" 2, plain "SET 5,(IX+d),C" 2, plain "SET 5,(IX+d),D" 2, plain "SET 5,(IX+d),E" 2,
  plain "SET 5,(IX+d),H" 2, plain "SET 5,(IX+d),L" 2, plain "SET 5,(IX+d)" 2, plain "SET 5,(IX+d),A" 2]

/-- DD CB displaced table, indices F0-FF: R6240-R6255. -/
def ddcbEntriesF : List Descriptor := [
  plain "SET 6,(IX+d),B" 2, plain "SET 6,(IX+d),C" 2, plain "SET 6,(IX+d),D" 2, plain "SET 6,(IX+d),E" 2,
  plain "SET 6,(IX+d),H" 2, plain "SET 6,(IX+d),L" 2, plain "SET 6,(IX+d)" 2, plain "SET 6,(IX+d),A" 2,
  plain "SET 7,(IX+d),B" 2, plain "SET 7,(IX+d),C" 2, plain "SET 7,(IX+d),D" 2, plain "SET 7,(IX+d),E" 2,
  plain "SET 7,(IX+d),H" 2, plain "SET 7,(IX+d),L" 2, plain "SET 7,(IX+d)" 2, plain "SET 7,(IX+d),A" 2]

/-- The DD CB displaced table, 256 entries. -/
def ddcbEntries : List Descriptor := [
  ddcbEntries0, ddcbEntries1, ddcbEntries2, ddcbEntries3,
  ddcbEntries4, ddcbEntries5, ddcbEntries6, ddcbEntries7,
  ddcbEntries8, ddcbEntries9, ddcbEntriesA, ddcbEntriesB,
  ddcbEntriesC, ddcbEntriesD, ddcbEntriesE, ddcbEntriesF].flatten

/-- FD CB displaced table, indices 00-0F: R7000-R7015. -/
def fdcbEntries0 : List Descriptor := [
  plain "RLC (IY+d),B" 2, plain "RLC (IY+d),C" 2, plain "RLC (IY+d),D" 2, plain "RLC (IY+d),E" 2,
  plain "RLC (IY+d),H" 2, plain "RLC (IY+d),L" 2, plain "RLC (IY+d)" 2, plain "RLC (IY+d),A" 2,
  plain "RRC (IY+d),B" 2, plain "RRC (IY+d),C" 2, plain "RRC (IY+d),D" 2, plain "RRC (IY+d),E" 2,
  plain "RRC (IY+d),H" 2, plain "RRC (IY+d),L" 2, plain "RRC (IY+d)" 2, plain "RRC (IY+d),A" 2]

/-- FD CB displaced table, indices 10-1F: R7016-R7031. -/
def fdcbEntries1 : List Descriptor := [
  plain "RL (IY+d),B" 2, plain "RL (IY+d),C" 2, plain "RL (IY+d),D" 2, plain "RL (IY+d),E" 2,
  plain "RL (IY+d),H" 2, plain "RL (IY+d),L" 2, plain "RL (IY+d)" 2, plain "RL (IY+d),A" 2,
  plain "RR (IY+d),B" 2, plain "RR (IY+d),C" 2, plain "RR (IY+d),D" 2, plain "RR (IY+d),E" 2,
  plain "RR (IY+d),H" 2, plain "RR (IY+d),L" 2, plain "RR (IY+d)" 2, plain "RR (IY+d),A" 2]

/-- FD CB displaced table, indices 20-2F: R7032-R7047. -/
def fdcbEntries2 : List Descriptor := [
  plain "SLA (IY+d),B" 2, plain "SLA (IY+d),C" 2, plain "SLA (IY+d),D" 2, plain "SLA (IY+d),E" 2,
  plain "SLA (IY+d),H" 2, plain "SLA (IY+d),L" 2, plain "SLA (IY+d)" 2, plain "SLA (IY+d),A" 2,
  plain "SRA (IY+d),B" 2, plain "SRA (IY+d),C" 2, plain "SRA (IY+d),D" 2, plain "SRA (IY+d),E" 2,
  plain "SRA (IY+d),H" 2, plain "SRA (IY+d),L" 2, plain "SRA (IY+d)" 2, plain "SRA (IY+d),A" 2]

/-- FD CB displaced table, indices 30-3F: R7048-R7063. -/
def fdcbEntries3 : List Descriptor := [
  plain "SLL (IY+d),B" 2, plain "SLL (IY+d),C" 2, plain "SLL (IY+d),D" 2, plain "SLL (IY+d),E" 2,
  plain "SLL (IY+d),H" 2, plain "SLL (IY+d),L" 2, plain "SLL (IY+d)" 2, plain "SLL (IY+d),A" 2,
  plain "SRL (IY+d),B" 2, plain "SRL (IY+d),C" 2, plain "SRL (IY+d),D" 2, plain "SRL (IY+d),E" 2,
  plain "SRL (IY+d),H" 2, plain "SRL (IY+d),L" 2, plain "SRL (IY+d)" 2, plain "SRL (IY+d),A" 2]

/-- FD CB displaced table, indices 40-4F: R7064-R7079. -/
def fdcbEntries4 : List Descriptor := [
  plain "BIT 0,(IY+d)" 2, plain "BIT 0,(IY+d)" 2, plain "BIT 0,(IY+d)" 2, plain "BIT 0,(IY+d)" 2,
  plain "BIT 0,(IY+d)" 2, plain "BIT 0,(IY+d)" 2, plain "BIT 0,(IY+d)" 2, plain "BIT 0,(IY+d)" 2,
  plain "BIT 1,(IY+d)" 2, plain "BIT 1,(IY+d)" 2, plain "BIT 1,(IY+d)" 2, plain "BIT 1,(IY+d)" 2,
  plain "BIT 1,(IY+d)" 2, plain "BIT 1,(IY+d)" 2, plain "BIT 1,(IY+d)" 2, plain "BIT 1,(IY+d)" 2]

/-- FD CB displaced table, indices 50-5F: R7080-R7095. -/
def fdcbEntries5 : List Descriptor := [
  plain "BIT 2,(IY+d)" 2, plain "BIT 2,(IY+d)" 2, plain "BIT 2,(IY+d)" 2, plain "BIT 2,(IY+d)" 2,
  plain "BIT 2,(IY+d)" 2, plain "BIT 2,(IY+d)" 2, plain "BIT 2,(IY+d)" 2, plain "BIT 2,(IY+d)" 2,
  plain "BIT 3,(IY+d)" 2, plain "BIT 3,(IY+d)" 2, plain "BIT 3,(IY+d)" 2, plain "BIT 3,(IY+d)" 2,
  plain "BIT 3,(IY+d)" 2, plain "BIT 3,(IY+d)" 2, plain "BIT 3,(IY+d)" 2, plain "BIT 3,(IY+d)" 2]

/-- FD CB displaced table, indices 60-6F: R7096-R7111. -/
def fdcbEntries6 : List Descriptor := [
  plain "BIT 4,(IY+d)" 2, plain "BIT 4,(IY+d)" 2, plain "BIT 4,(IY+d)" 2, plain "BIT 4,(IY+d)" 2,
  plain "BIT 4,(IY+d)" 2, plain "BIT 4,(IY+d)" 2, plain "BIT 4,(IY+d)" 2, plain "BIT 4,(IY+d)" 2,
  plain "BIT 5,(IY+d)" 2, plain "BIT 5,(IY+d)" 2, plain "BIT 5,(IY+d)" 2, plain "BIT 5,(IY+d)" 2,
  plain "BIT 5,(IY+d)" 2, plain "BIT 5,(IY+d)" 2, plain "BIT 5,(IY+d)" 2, plain "BIT 5,(IY+d)" 2]

/-- FD CB displaced table, indices 70-7F: R7112-R7127. -/
def fdcbEntries7 : List Descriptor := [
  plain "BIT 6,(IY+d)" 2, plain "BIT 6,(IY+d)" 2, plain "BIT 6,(IY+d)" 2, plain "BIT 6,(IY+d)" 2,
  plain "BIT 6,(IY+d)" 2, plain "BIT 6,(IY+d)" 2, plain "BIT 6,(IY+d)" 2, plain "BIT 6,(IY+d)" 2,
  plain "BIT 7,(IY+d)" 2, plain "BIT 7,(IY+d)" 2, plain "BIT 7,(IY+d)" 2, plain "BIT 7,(IY+d)" 2,
  plain "BIT 7,(IY+d)" 2, plain "BIT 7,(IY+d)" 2, plain "BIT 7,(IY+d)" 2, plain "BIT 7,(IY+d)" 2]

/-- FD CB displaced table, indices 80-8F: R7128-R7143. -/
def fdcbEntries8 : List Descriptor := [
  plain "RES 0,(IY+d),B" 2, plain "RES 0,(IY+d),C" 2, plain "RES 0,(IY+d),D" 2, plain "RES 0,(IY+d),E" 2,
  plain "RES 0,(IY+d),H" 2, plain "RES 0,(IY+d),L" 2, plain "RES 0,(IY+d)" 2, plain "RES 0,(IY+d),A" 2,
  plain "RES 1,(IY+d),B" 2, plain "RES 1,(IY+d),C" 2, plain "RES 1,(IY+d),D" 2, plain "RES 1,(IY+d),E" 2,
  plain "RES 1,(IY+d),H" 2, plain "RES 1,(IY+d),L" 2, plain "RES 1,(IY+d)" 2, plain "RES 1,(IY+d),A" 2]

/-- FD CB displaced table, indices 90-9F: R7144-R7159. -/
def fdcbEntries9 : List Descriptor := [
  plain "RES 2,(IY+d),B" 2, plain "RES 2,(IY+d),C" 2, plain "RES 2,(IY+d),D" 2, plain "RES 2,(IY+d),E" 2,
  plain "RES 2,(IY+d),H" 2, plain "RES 2,(IY+d),L" 2, plain "RES 2,(IY+d)" 2, plain "RES 2,(IY+d),A" 2,
  plain "RES 3,(IY+d),B" 2, plain "RES 3,(IY+d),C" 2, plain "RES 3,(IY+d),D" 2, plain "RES 3,(IY+d),E" 2,
  plain "RES 3,(IY+d),H" 2, plain "RES 3,(IY+d),L" 2, plain "RES 3,(IY+d)" 2, plain "RES 3,(IY+d),A" 2]

/-- FD CB displaced table, indices A0-AF: R7160-R7175. -/
def fdcbEntriesA : List Descriptor := [
  plain "RES 4,(IY+d),B" 2, plain "RES 4,(IY+d),C" 2, plain "RES 4,(IY+d),D" 2, plain "RES 4,(IY+d),E" 2,
  plain "RES 4,(IY+d),H" 2, plain "RES 4,(IY+d),L" 2, plain "RES 4,(IY+d)" 2, plain "RES 4,(IY+d),A" 2,
  plain "RES 5,(IY+d),B" 2, plain "RES 5,(IY+d),C" 2, plain "RES 5,(IY+d),D" 2, plain "RES 5,(IY+d),E" 2,
  plain "RES 5,(IY+d),H" 2, plain "RES 5,(IY+d),L" 2, plain "RES 5,(IY+d)" 2, plain "RES 5,(IY+d),A" 2]

/-- FD CB displaced table, indices B0-BF: R7176-R7191. -/
def fdcbEntriesB : List Descriptor := [
  plain "RES 6,(IY+d),B" 2, plain "RES 6,(IY+d),C" 2, plain "RES 6,(IY+d),D" 2, plain "RES 6,(IY+d),E" 2,
  plain "RES 6,(IY+d),H" 2, plain "RES 6,(IY+d),L" 2, plain "RES 6,(IY+d)" 2, plain "RES 6,(IY+d),A" 2,
  plain "RES 7,(IY+d),B" 2, plain "RES 7,(IY+d),C" 2, plain "RES 7,(IY+d),D" 2, plain "RES 7,(IY+d),E" 2,
  plain "RES 7,(IY+d),H" 2, plain "RES 7,(IY+d),L" 2, plain "RES 7,(IY+d)" 2, plain "RES 7,(IY+d),A" 2]

/-- FD CB displaced table, indices C0-CF: R7192-R7207. -/
def fdcbEntriesC : List Descriptor := [
  plain "SET 0,(IY+d),B" 2, plain "SET 0,(IY+d),C" 2, plain "SET 0,(IY+d),D" 2, plain "SET 0,(IY+d),E" 2,
  plain "SET 0,(IY+d),H" 2, plain "SET 0,(IY+d),L" 2, plain "SET 0,(IY+d)" 2, plain "SET 0,(IY+d),A" 2,
  plain "SET 1,(IY+d),B" 2, plain "SET 1,(IY+d),C" 2, plain "SET 1,(IY+d),D" 2, plain "SET 1,(IY+d),E" 2,
  plain "SET 1,(IY+d),H" 2, plain "SET 1,(IY+d),L" 2, plain "SET 1,(IY+d)" 2, plain "SET 1,(IY+d),A" 2]

/-- FD CB displaced table, indices D0-DF: R7208-R7223. -/
def fdcbEntriesD : List Descriptor := [
  plain "SET 2,(IY+d),B" 2, plain "SET 2,(IY+d),C" 2, plain "SET 2,(IY+d),D" 2, plain "SET 2,(IY+d),E" 2,
  plain "SET 2,(IY+d),H" 2, plain "SET 2,(IY+d),L" 2, plain "SET 2,(IY+d)" 2, plain "SET 2,(IY+d),A" 2,
  plain "SET 3,(IY+d),B" 2, plain "SET 3,(IY+d),C" 2, plain "SET 3,(IY+d),D" 2, plain "SET 3,(IY+d),E" 2,
  plain "SET 3,(IY+d),H" 2, plain "SET 3,(IY+d),L" 2, plain "SET 3,(IY+d)" 2, plain "SET 3,(IY+d),A" 2]

/-- FD CB displaced table, indices E0-EF: R7224-R7239. -/
def fdcbEntriesE : List Descriptor := [
  plain "SET 4,(IY+d),B" 2, plain "SET 4,(IY+d),C" 2, plain "SET 4,(IY+d),D" 2, plain "SET 4,(IY+d),E" 2,
  plain "SET 4,(IY+d),H" 2, plain "SET 4,(IY+d),L" 2, plain "SET 4,(IY+d)" 2, plain "SET 4,(IY+d),A" 2,
  plain "SET 5,(IY+d),B" 2, plain "SET 5,(IY+d),C" 2, plain "SET 5,(IY+d),D" 2, plain "SET 5,(IY+d),E" 2,
  plain "SET 5,(IY+d),H" 2, plain "SET 5,(IY+d),L" 2, plain "SET 5,(IY+d)" 2, plain "SET 5,(IY+d),A" 2]

/-- FD CB displaced table, indices F0-FF: R7240-R7255. -/
def fdcbEntriesF : List Descriptor := [
  plain "SET 6,(IY+d),B" 2, plain "SET 6,(IY+d),C" 2, plain "SET 6,(IY+d),D" 2, plain "SET 6,(IY+d),E" 2,
  plain "SET 6,(IY+d),H" 2, plain "SET 6,(IY+d),L" 2, plain "SET 6,(IY+d)" 2, plain "SET 6,(IY+d),A" 2,
  plain "SET 7,(IY+d),B" 2, plain "SET 7,(IY+d),C" 2, plain "SET 7,(IY+d),D" 2, plain "SET 7,(IY+d),E" 2,
  plain "SET 7,(IY+d),H" 2, plain "SET 7,(IY+d),L" 2, plain "SET 7,(IY+d)" 2, plain "SET 7,(IY+d),A" 2]

/-- The FD CB displaced table, 256 entries. -/
def fdcbEntries : List Descriptor := [
  fdcbEntries0, fdcbEntries1, fdcbEntries2, fdcbEntries3,
  fdcbEntries4, fdcbEntries5, fdcbEntries6, fdcbEntries7,
  fdcbEntries8, fdcbEntries9, fdcbEntriesA, fdcbEntriesB,
  fdcbEntriesC, fdcbEntriesD, fdcbEntriesE, fdcbEntriesF].flatten

/-- The default table set, with the text of its placeholder entries (92_eei_decisions.md D4, D8). -/
def defaultTables (ph : String) : TableSet where
  primary := primaryEntries
  cb := cbEntries
  ed := edEntries ph
  dd := ddEntries ph
  fd := fdEntries ph
  ddcb := ddcbEntries
  fdcb := fdcbEntries

end Sys2Proof.Machine
end

