-- ==== Sys2Proof/Machine/Dd.lean ====
section
/-! DEFINITION. The meanings of the DD table (index register IX): rules R4000 to R4255 of 44_dd_00-7F.md and 44_dd_80-FF.md, in index order. Each docstring gives the rule, the bytes in stream order and the descriptor. -/

namespace Sys2Proof.Machine

/-- R4000: `DD 00`, `Plain("NOP", 1)`. -/
def exec_dd00_NOP (s : State) : Outcome := prefixedLine "NOP" 1 s

/-- R4001: `DD 01 lo hi`, `Plain("LD BC,nn", 3)`. -/
def exec_dd01_LD_BC_nn (s : State) : Outcome := prefixedLine "LD BC,nn" 3 s

/-- R4002: `DD 02`, `Plain("LD (BC),A", 1)`. -/
def exec_dd02_LD_mBC_A (s : State) : Outcome := prefixedLine "LD (BC),A" 1 s

/-- R4003: `DD 03`, `Plain("INC BC", 1)`. -/
def exec_dd03_INC_BC (s : State) : Outcome := prefixedLine "INC BC" 1 s

/-- R4004: `DD 04`, `Plain("INC B", 1)`. -/
def exec_dd04_INC_B (s : State) : Outcome := prefixedLine "INC B" 1 s

/-- R4005: `DD 05`, `Plain("DEC B", 1)`. -/
def exec_dd05_DEC_B (s : State) : Outcome := prefixedLine "DEC B" 1 s

/-- R4006: `DD 06 n`, `Plain("LD B,n", 2)`. -/
def exec_dd06_LD_B_n (s : State) : Outcome := prefixedLine "LD B,n" 2 s

/-- R4007: `DD 07`, `Plain("RLCA", 1)`. -/
def exec_dd07_RLCA (s : State) : Outcome := prefixedLine "RLCA" 1 s

/-- R4008: `DD 08`, `Plain("EX AF,AF'", 1)`. -/
def exec_dd08_EX_AF_AFx (s : State) : Outcome := prefixedLine "EX AF,AF'" 1 s

/-- R4009: `DD 09`, `Plain("ADD IX,BC", 1)`. -/
def exec_dd09_ADD_IX_BC (s : State) : Outcome := prefixedLine "ADD IX,BC" 1 s

/-- R4010: `DD 0A`, `Plain("LD A,(BC)", 1)`. -/
def exec_dd0A_LD_A_mBC (s : State) : Outcome := prefixedLine "LD A,(BC)" 1 s

/-- R4011: `DD 0B`, `Plain("DEC BC", 1)`. -/
def exec_dd0B_DEC_BC (s : State) : Outcome := prefixedLine "DEC BC" 1 s

/-- R4012: `DD 0C`, `Plain("INC C", 1)`. -/
def exec_dd0C_INC_C (s : State) : Outcome := prefixedLine "INC C" 1 s

/-- R4013: `DD 0D`, `Plain("DEC C", 1)`. -/
def exec_dd0D_DEC_C (s : State) : Outcome := prefixedLine "DEC C" 1 s

/-- R4014: `DD 0E n`, `Plain("LD C,n", 2)`. -/
def exec_dd0E_LD_C_n (s : State) : Outcome := prefixedLine "LD C,n" 2 s

/-- R4015: `DD 0F`, `Plain("RRCA", 1)`. -/
def exec_dd0F_RRCA (s : State) : Outcome := prefixedLine "RRCA" 1 s

/-- R4016: `DD 10 n`, `Plain("DJNZ e", 2)`. -/
def exec_dd10_DJNZ_e (s : State) : Outcome := prefixedLine "DJNZ e" 2 s

/-- R4017: `DD 11 lo hi`, `Plain("LD DE,nn", 3)`. -/
def exec_dd11_LD_DE_nn (s : State) : Outcome := prefixedLine "LD DE,nn" 3 s

/-- R4018: `DD 12`, `Plain("LD (DE),A", 1)`. -/
def exec_dd12_LD_mDE_A (s : State) : Outcome := prefixedLine "LD (DE),A" 1 s

/-- R4019: `DD 13`, `Plain("INC DE", 1)`. -/
def exec_dd13_INC_DE (s : State) : Outcome := prefixedLine "INC DE" 1 s

/-- R4020: `DD 14`, `Plain("INC D", 1)`. -/
def exec_dd14_INC_D (s : State) : Outcome := prefixedLine "INC D" 1 s

/-- R4021: `DD 15`, `Plain("DEC D", 1)`. -/
def exec_dd15_DEC_D (s : State) : Outcome := prefixedLine "DEC D" 1 s

/-- R4022: `DD 16 n`, `Plain("LD D,n", 2)`. -/
def exec_dd16_LD_D_n (s : State) : Outcome := prefixedLine "LD D,n" 2 s

/-- R4023: `DD 17`, `Plain("RLA", 1)`. -/
def exec_dd17_RLA (s : State) : Outcome := prefixedLine "RLA" 1 s

/-- R4024: `DD 18 n`, `Plain("JR e", 2)`. -/
def exec_dd18_JR_e (s : State) : Outcome := prefixedLine "JR e" 2 s

/-- R4025: `DD 19`, `Plain("ADD IX,DE", 1)`. -/
def exec_dd19_ADD_IX_DE (s : State) : Outcome := prefixedLine "ADD IX,DE" 1 s

/-- R4026: `DD 1A`, `Plain("LD A,(DE)", 1)`. -/
def exec_dd1A_LD_A_mDE (s : State) : Outcome := prefixedLine "LD A,(DE)" 1 s

/-- R4027: `DD 1B`, `Plain("DEC DE", 1)`. -/
def exec_dd1B_DEC_DE (s : State) : Outcome := prefixedLine "DEC DE" 1 s

/-- R4028: `DD 1C`, `Plain("INC E", 1)`. -/
def exec_dd1C_INC_E (s : State) : Outcome := prefixedLine "INC E" 1 s

/-- R4029: `DD 1D`, `Plain("DEC E", 1)`. -/
def exec_dd1D_DEC_E (s : State) : Outcome := prefixedLine "DEC E" 1 s

/-- R4030: `DD 1E n`, `Plain("LD E,n", 2)`. -/
def exec_dd1E_LD_E_n (s : State) : Outcome := prefixedLine "LD E,n" 2 s

/-- R4031: `DD 1F`, `Plain("RRA", 1)`. -/
def exec_dd1F_RRA (s : State) : Outcome := prefixedLine "RRA" 1 s

/-- R4032: `DD 20 n`, `Plain("JR NZ,e", 2)`. -/
def exec_dd20_JR_NZ_e (s : State) : Outcome := prefixedLine "JR NZ,e" 2 s

/-- R4033: `DD 21 lo hi`, `Plain("LD IX,nn", 3)`. -/
def exec_dd21_LD_IX_nn (s : State) : Outcome := prefixedLine "LD IX,nn" 3 s

/-- R4034: `DD 22 lo hi`, `Plain("LD (nn),IX", 3)`. -/
def exec_dd22_LD_mnn_IX (s : State) : Outcome := prefixedLine "LD (nn),IX" 3 s

/-- R4035: `DD 23`, `Plain("INC IX", 1)`. -/
def exec_dd23_INC_IX (s : State) : Outcome := prefixedLine "INC IX" 1 s

/-- R4036: `DD 24`, `Plain("INC IXH", 1)`. -/
def exec_dd24_INC_IXH (s : State) : Outcome := prefixedLine "INC IXH" 1 s

/-- R4037: `DD 25`, `Plain("DEC IXH", 1)`. -/
def exec_dd25_DEC_IXH (s : State) : Outcome := prefixedLine "DEC IXH" 1 s

/-- R4038: `DD 26 n`, `Plain("LD IXH,n", 2)`. -/
def exec_dd26_LD_IXH_n (s : State) : Outcome := prefixedLine "LD IXH,n" 2 s

/-- R4039: `DD 27`, `Plain("DAA", 1)`. -/
def exec_dd27_DAA (s : State) : Outcome := prefixedLine "DAA" 1 s

/-- R4040: `DD 28 n`, `Plain("JR Z,e", 2)`. -/
def exec_dd28_JR_Z_e (s : State) : Outcome := prefixedLine "JR Z,e" 2 s

/-- R4041: `DD 29`, `Plain("ADD IX,IX", 1)`. -/
def exec_dd29_ADD_IX_IX (s : State) : Outcome := prefixedLine "ADD IX,IX" 1 s

/-- R4042: `DD 2A lo hi`, `Plain("LD IX,(nn)", 3)`. -/
def exec_dd2A_LD_IX_mnn (s : State) : Outcome := prefixedLine "LD IX,(nn)" 3 s

/-- R4043: `DD 2B`, `Plain("DEC IX", 1)`. -/
def exec_dd2B_DEC_IX (s : State) : Outcome := prefixedLine "DEC IX" 1 s

/-- R4044: `DD 2C`, `Plain("INC IXL", 1)`. -/
def exec_dd2C_INC_IXL (s : State) : Outcome := prefixedLine "INC IXL" 1 s

/-- R4045: `DD 2D`, `Plain("DEC IXL", 1)`. -/
def exec_dd2D_DEC_IXL (s : State) : Outcome := prefixedLine "DEC IXL" 1 s

/-- R4046: `DD 2E n`, `Plain("LD IXL,n", 2)`. -/
def exec_dd2E_LD_IXL_n (s : State) : Outcome := prefixedLine "LD IXL,n" 2 s

/-- R4047: `DD 2F`, `Plain("CPL", 1)`. -/
def exec_dd2F_CPL (s : State) : Outcome := prefixedLine "CPL" 1 s

/-- R4048: `DD 30 n`, `Plain("JR NC,e", 2)`. -/
def exec_dd30_JR_NC_e (s : State) : Outcome := prefixedLine "JR NC,e" 2 s

/-- R4049: `DD 31 lo hi`, `Plain("LD SP,nn", 3)`. -/
def exec_dd31_LD_SP_nn (s : State) : Outcome := prefixedLine "LD SP,nn" 3 s

/-- R4050: `DD 32 lo hi`, `Plain("LD (nn),A", 3)`. -/
def exec_dd32_LD_mnn_A (s : State) : Outcome := prefixedLine "LD (nn),A" 3 s

/-- R4051: `DD 33`, `Plain("INC SP", 1)`. -/
def exec_dd33_INC_SP (s : State) : Outcome := prefixedLine "INC SP" 1 s

/-- R4052: `DD 34 d`, `Plain("INC (IX+d)", 2)`. -/
def exec_dd34_INC_mIXd (s : State) : Outcome := prefixedLine "INC (IX+d)" 2 s

/-- R4053: `DD 35 d`, `Plain("DEC (IX+d)", 2)`. -/
def exec_dd35_DEC_mIXd (s : State) : Outcome := prefixedLine "DEC (IX+d)" 2 s

/-- R4054: `DD 36 d n`, `Plain("LD (IX+d),n", 3)`. -/
def exec_dd36_LD_mIXd_n (s : State) : Outcome := prefixedLine "LD (IX+d),n" 3 s

/-- R4055: `DD 37`, `Plain("SCF", 1)`. -/
def exec_dd37_SCF (s : State) : Outcome := prefixedLine "SCF" 1 s

/-- R4056: `DD 38 n`, `Plain("JR C,e", 2)`. -/
def exec_dd38_JR_C_e (s : State) : Outcome := prefixedLine "JR C,e" 2 s

/-- R4057: `DD 39`, `Plain("ADD IX,SP", 1)`. -/
def exec_dd39_ADD_IX_SP (s : State) : Outcome := prefixedLine "ADD IX,SP" 1 s

/-- R4058: `DD 3A lo hi`, `Plain("LD A,(nn)", 3)`. -/
def exec_dd3A_LD_A_mnn (s : State) : Outcome := prefixedLine "LD A,(nn)" 3 s

/-- R4059: `DD 3B`, `Plain("DEC SP", 1)`. -/
def exec_dd3B_DEC_SP (s : State) : Outcome := prefixedLine "DEC SP" 1 s

/-- R4060: `DD 3C`, `Plain("INC A", 1)`. -/
def exec_dd3C_INC_A (s : State) : Outcome := prefixedLine "INC A" 1 s

/-- R4061: `DD 3D`, `Plain("DEC A", 1)`. -/
def exec_dd3D_DEC_A (s : State) : Outcome := prefixedLine "DEC A" 1 s

/-- R4062: `DD 3E n`, `Plain("LD A,n", 2)`. -/
def exec_dd3E_LD_A_n (s : State) : Outcome := prefixedLine "LD A,n" 2 s

/-- R4063: `DD 3F`, `Plain("CCF", 1)`. -/
def exec_dd3F_CCF (s : State) : Outcome := prefixedLine "CCF" 1 s

/-- R4064: `DD 40`, `Plain("LD B,B", 1)`. -/
def exec_dd40_LD_B_B (s : State) : Outcome := prefixedLine "LD B,B" 1 s

/-- R4065: `DD 41`, `Plain("LD B,C", 1)`. -/
def exec_dd41_LD_B_C (s : State) : Outcome := prefixedLine "LD B,C" 1 s

/-- R4066: `DD 42`, `Plain("LD B,D", 1)`. -/
def exec_dd42_LD_B_D (s : State) : Outcome := prefixedLine "LD B,D" 1 s

/-- R4067: `DD 43`, `Plain("LD B,E", 1)`. -/
def exec_dd43_LD_B_E (s : State) : Outcome := prefixedLine "LD B,E" 1 s

/-- R4068: `DD 44`, `Plain("LD B,IXH", 1)`. -/
def exec_dd44_LD_B_IXH (s : State) : Outcome := prefixedLine "LD B,IXH" 1 s

/-- R4069: `DD 45`, `Plain("LD B,IXL", 1)`. -/
def exec_dd45_LD_B_IXL (s : State) : Outcome := prefixedLine "LD B,IXL" 1 s

/-- R4070: `DD 46 d`, `Plain("LD B,(IX+d)", 2)`. -/
def exec_dd46_LD_B_mIXd (s : State) : Outcome := prefixedLine "LD B,(IX+d)" 2 s

/-- R4071: `DD 47`, `Plain("LD B,A", 1)`. -/
def exec_dd47_LD_B_A (s : State) : Outcome := prefixedLine "LD B,A" 1 s

/-- R4072: `DD 48`, `Plain("LD C,B", 1)`. -/
def exec_dd48_LD_C_B (s : State) : Outcome := prefixedLine "LD C,B" 1 s

/-- R4073: `DD 49`, `Plain("LD C,C", 1)`. -/
def exec_dd49_LD_C_C (s : State) : Outcome := prefixedLine "LD C,C" 1 s

/-- R4074: `DD 4A`, `Plain("LD C,D", 1)`. -/
def exec_dd4A_LD_C_D (s : State) : Outcome := prefixedLine "LD C,D" 1 s

/-- R4075: `DD 4B`, `Plain("LD C,E", 1)`. -/
def exec_dd4B_LD_C_E (s : State) : Outcome := prefixedLine "LD C,E" 1 s

/-- R4076: `DD 4C`, `Plain("LD C,IXH", 1)`. -/
def exec_dd4C_LD_C_IXH (s : State) : Outcome := prefixedLine "LD C,IXH" 1 s

/-- R4077: `DD 4D`, `Plain("LD C,IXL", 1)`. -/
def exec_dd4D_LD_C_IXL (s : State) : Outcome := prefixedLine "LD C,IXL" 1 s

/-- R4078: `DD 4E d`, `Plain("LD C,(IX+d)", 2)`. -/
def exec_dd4E_LD_C_mIXd (s : State) : Outcome := prefixedLine "LD C,(IX+d)" 2 s

/-- R4079: `DD 4F`, `Plain("LD C,A", 1)`. -/
def exec_dd4F_LD_C_A (s : State) : Outcome := prefixedLine "LD C,A" 1 s

/-- R4080: `DD 50`, `Plain("LD D,B", 1)`. -/
def exec_dd50_LD_D_B (s : State) : Outcome := prefixedLine "LD D,B" 1 s

/-- R4081: `DD 51`, `Plain("LD D,C", 1)`. -/
def exec_dd51_LD_D_C (s : State) : Outcome := prefixedLine "LD D,C" 1 s

/-- R4082: `DD 52`, `Plain("LD D,D", 1)`. -/
def exec_dd52_LD_D_D (s : State) : Outcome := prefixedLine "LD D,D" 1 s

/-- R4083: `DD 53`, `Plain("LD D,E", 1)`. -/
def exec_dd53_LD_D_E (s : State) : Outcome := prefixedLine "LD D,E" 1 s

/-- R4084: `DD 54`, `Plain("LD D,IXH", 1)`. -/
def exec_dd54_LD_D_IXH (s : State) : Outcome := prefixedLine "LD D,IXH" 1 s

/-- R4085: `DD 55`, `Plain("LD D,IXL", 1)`. -/
def exec_dd55_LD_D_IXL (s : State) : Outcome := prefixedLine "LD D,IXL" 1 s

/-- R4086: `DD 56 d`, `Plain("LD D,(IX+d)", 2)`. -/
def exec_dd56_LD_D_mIXd (s : State) : Outcome := prefixedLine "LD D,(IX+d)" 2 s

/-- R4087: `DD 57`, `Plain("LD D,A", 1)`. -/
def exec_dd57_LD_D_A (s : State) : Outcome := prefixedLine "LD D,A" 1 s

/-- R4088: `DD 58`, `Plain("LD E,B", 1)`. -/
def exec_dd58_LD_E_B (s : State) : Outcome := prefixedLine "LD E,B" 1 s

/-- R4089: `DD 59`, `Plain("LD E,C", 1)`. -/
def exec_dd59_LD_E_C (s : State) : Outcome := prefixedLine "LD E,C" 1 s

/-- R4090: `DD 5A`, `Plain("LD E,D", 1)`. -/
def exec_dd5A_LD_E_D (s : State) : Outcome := prefixedLine "LD E,D" 1 s

/-- R4091: `DD 5B`, `Plain("LD E,E", 1)`. -/
def exec_dd5B_LD_E_E (s : State) : Outcome := prefixedLine "LD E,E" 1 s

/-- R4092: `DD 5C`, `Plain("LD E,IXH", 1)`. -/
def exec_dd5C_LD_E_IXH (s : State) : Outcome := prefixedLine "LD E,IXH" 1 s

/-- R4093: `DD 5D`, `Plain("LD E,IXL", 1)`. -/
def exec_dd5D_LD_E_IXL (s : State) : Outcome := prefixedLine "LD E,IXL" 1 s

/-- R4094: `DD 5E d`, `Plain("LD E,(IX+d)", 2)`. -/
def exec_dd5E_LD_E_mIXd (s : State) : Outcome := prefixedLine "LD E,(IX+d)" 2 s

/-- R4095: `DD 5F`, `Plain("LD E,A", 1)`. -/
def exec_dd5F_LD_E_A (s : State) : Outcome := prefixedLine "LD E,A" 1 s

/-- R4096: `DD 60`, `Plain("LD IXH,B", 1)`. -/
def exec_dd60_LD_IXH_B (s : State) : Outcome := prefixedLine "LD IXH,B" 1 s

/-- R4097: `DD 61`, `Plain("LD IXH,C", 1)`. -/
def exec_dd61_LD_IXH_C (s : State) : Outcome := prefixedLine "LD IXH,C" 1 s

/-- R4098: `DD 62`, `Plain("LD IXH,D", 1)`. -/
def exec_dd62_LD_IXH_D (s : State) : Outcome := prefixedLine "LD IXH,D" 1 s

/-- R4099: `DD 63`, `Plain("LD IXH,E", 1)`. -/
def exec_dd63_LD_IXH_E (s : State) : Outcome := prefixedLine "LD IXH,E" 1 s

/-- R4100: `DD 64`, `Plain("LD IXH,IXH", 1)`. -/
def exec_dd64_LD_IXH_IXH (s : State) : Outcome := prefixedLine "LD IXH,IXH" 1 s

/-- R4101: `DD 65`, `Plain("LD IXH,IXL", 1)`. -/
def exec_dd65_LD_IXH_IXL (s : State) : Outcome := prefixedLine "LD IXH,IXL" 1 s

/-- R4102: `DD 66 d`, `Plain("LD H,(IX+d)", 2)`. -/
def exec_dd66_LD_H_mIXd (s : State) : Outcome := prefixedLine "LD H,(IX+d)" 2 s

/-- R4103: `DD 67`, `Plain("LD IXH,A", 1)`. -/
def exec_dd67_LD_IXH_A (s : State) : Outcome := prefixedLine "LD IXH,A" 1 s

/-- R4104: `DD 68`, `Plain("LD IXL,B", 1)`. -/
def exec_dd68_LD_IXL_B (s : State) : Outcome := prefixedLine "LD IXL,B" 1 s

/-- R4105: `DD 69`, `Plain("LD IXL,C", 1)`. -/
def exec_dd69_LD_IXL_C (s : State) : Outcome := prefixedLine "LD IXL,C" 1 s

/-- R4106: `DD 6A`, `Plain("LD IXL,D", 1)`. -/
def exec_dd6A_LD_IXL_D (s : State) : Outcome := prefixedLine "LD IXL,D" 1 s

/-- R4107: `DD 6B`, `Plain("LD IXL,E", 1)`. -/
def exec_dd6B_LD_IXL_E (s : State) : Outcome := prefixedLine "LD IXL,E" 1 s

/-- R4108: `DD 6C`, `Plain("LD IXL,IXH", 1)`. -/
def exec_dd6C_LD_IXL_IXH (s : State) : Outcome := prefixedLine "LD IXL,IXH" 1 s

/-- R4109: `DD 6D`, `Plain("LD IXL,IXL", 1)`. -/
def exec_dd6D_LD_IXL_IXL (s : State) : Outcome := prefixedLine "LD IXL,IXL" 1 s

/-- R4110: `DD 6E d`, `Plain("LD L,(IX+d)", 2)`. -/
def exec_dd6E_LD_L_mIXd (s : State) : Outcome := prefixedLine "LD L,(IX+d)" 2 s

/-- R4111: `DD 6F`, `Plain("LD IXL,A", 1)`. -/
def exec_dd6F_LD_IXL_A (s : State) : Outcome := prefixedLine "LD IXL,A" 1 s

/-- R4112: `DD 70 d`, `Plain("LD (IX+d),B", 2)`. -/
def exec_dd70_LD_mIXd_B (s : State) : Outcome := prefixedLine "LD (IX+d),B" 2 s

/-- R4113: `DD 71 d`, `Plain("LD (IX+d),C", 2)`. -/
def exec_dd71_LD_mIXd_C (s : State) : Outcome := prefixedLine "LD (IX+d),C" 2 s

/-- R4114: `DD 72 d`, `Plain("LD (IX+d),D", 2)`. -/
def exec_dd72_LD_mIXd_D (s : State) : Outcome := prefixedLine "LD (IX+d),D" 2 s

/-- R4115: `DD 73 d`, `Plain("LD (IX+d),E", 2)`. -/
def exec_dd73_LD_mIXd_E (s : State) : Outcome := prefixedLine "LD (IX+d),E" 2 s

/-- R4116: `DD 74 d`, `Plain("LD (IX+d),H", 2)`. -/
def exec_dd74_LD_mIXd_H (s : State) : Outcome := prefixedLine "LD (IX+d),H" 2 s

/-- R4117: `DD 75 d`, `Plain("LD (IX+d),L", 2)`. -/
def exec_dd75_LD_mIXd_L (s : State) : Outcome := prefixedLine "LD (IX+d),L" 2 s

/-- R4118: `DD 76`, `Plain("HALT", 1)`. -/
def exec_dd76_HALT (s : State) : Outcome := prefixedLine "HALT" 1 s

/-- R4119: `DD 77 d`, `Plain("LD (IX+d),A", 2)`. -/
def exec_dd77_LD_mIXd_A (s : State) : Outcome := prefixedLine "LD (IX+d),A" 2 s

/-- R4120: `DD 78`, `Plain("LD A,B", 1)`. -/
def exec_dd78_LD_A_B (s : State) : Outcome := prefixedLine "LD A,B" 1 s

/-- R4121: `DD 79`, `Plain("LD A,C", 1)`. -/
def exec_dd79_LD_A_C (s : State) : Outcome := prefixedLine "LD A,C" 1 s

/-- R4122: `DD 7A`, `Plain("LD A,D", 1)`. -/
def exec_dd7A_LD_A_D (s : State) : Outcome := prefixedLine "LD A,D" 1 s

/-- R4123: `DD 7B`, `Plain("LD A,E", 1)`. -/
def exec_dd7B_LD_A_E (s : State) : Outcome := prefixedLine "LD A,E" 1 s

/-- R4124: `DD 7C`, `Plain("LD A,IXH", 1)`. -/
def exec_dd7C_LD_A_IXH (s : State) : Outcome := prefixedLine "LD A,IXH" 1 s

/-- R4125: `DD 7D`, `Plain("LD A,IXL", 1)`. -/
def exec_dd7D_LD_A_IXL (s : State) : Outcome := prefixedLine "LD A,IXL" 1 s

/-- R4126: `DD 7E d`, `Plain("LD A,(IX+d)", 2)`. -/
def exec_dd7E_LD_A_mIXd (s : State) : Outcome := prefixedLine "LD A,(IX+d)" 2 s

/-- R4127: `DD 7F`, `Plain("LD A,A", 1)`. -/
def exec_dd7F_LD_A_A (s : State) : Outcome := prefixedLine "LD A,A" 1 s

/-- R4128: `DD 80`, `Plain("ADD A,B", 1)`. -/
def exec_dd80_ADD_A_B (s : State) : Outcome := prefixedLine "ADD A,B" 1 s

/-- R4129: `DD 81`, `Plain("ADD A,C", 1)`. -/
def exec_dd81_ADD_A_C (s : State) : Outcome := prefixedLine "ADD A,C" 1 s

/-- R4130: `DD 82`, `Plain("ADD A,D", 1)`. -/
def exec_dd82_ADD_A_D (s : State) : Outcome := prefixedLine "ADD A,D" 1 s

/-- R4131: `DD 83`, `Plain("ADD A,E", 1)`. -/
def exec_dd83_ADD_A_E (s : State) : Outcome := prefixedLine "ADD A,E" 1 s

/-- R4132: `DD 84`, `Plain("ADD A,IXH", 1)`. -/
def exec_dd84_ADD_A_IXH (s : State) : Outcome := prefixedLine "ADD A,IXH" 1 s

/-- R4133: `DD 85`, `Plain("ADD A,IXL", 1)`. -/
def exec_dd85_ADD_A_IXL (s : State) : Outcome := prefixedLine "ADD A,IXL" 1 s

/-- R4134: `DD 86 d`, `Plain("ADD A,(IX+d)", 2)`. -/
def exec_dd86_ADD_A_mIXd (s : State) : Outcome := prefixedLine "ADD A,(IX+d)" 2 s

/-- R4135: `DD 87`, `Plain("ADD A,A", 1)`. -/
def exec_dd87_ADD_A_A (s : State) : Outcome := prefixedLine "ADD A,A" 1 s

/-- R4136: `DD 88`, `Plain("ADC A,B", 1)`. -/
def exec_dd88_ADC_A_B (s : State) : Outcome := prefixedLine "ADC A,B" 1 s

/-- R4137: `DD 89`, `Plain("ADC A,C", 1)`. -/
def exec_dd89_ADC_A_C (s : State) : Outcome := prefixedLine "ADC A,C" 1 s

/-- R4138: `DD 8A`, `Plain("ADC A,D", 1)`. -/
def exec_dd8A_ADC_A_D (s : State) : Outcome := prefixedLine "ADC A,D" 1 s

/-- R4139: `DD 8B`, `Plain("ADC A,E", 1)`. -/
def exec_dd8B_ADC_A_E (s : State) : Outcome := prefixedLine "ADC A,E" 1 s

/-- R4140: `DD 8C`, `Plain("ADC A,IXH", 1)`. -/
def exec_dd8C_ADC_A_IXH (s : State) : Outcome := prefixedLine "ADC A,IXH" 1 s

/-- R4141: `DD 8D`, `Plain("ADC A,IXL", 1)`. -/
def exec_dd8D_ADC_A_IXL (s : State) : Outcome := prefixedLine "ADC A,IXL" 1 s

/-- R4142: `DD 8E d`, `Plain("ADC A,(IX+d)", 2)`. -/
def exec_dd8E_ADC_A_mIXd (s : State) : Outcome := prefixedLine "ADC A,(IX+d)" 2 s

/-- R4143: `DD 8F`, `Plain("ADC A,A", 1)`. -/
def exec_dd8F_ADC_A_A (s : State) : Outcome := prefixedLine "ADC A,A" 1 s

/-- R4144: `DD 90`, `Plain("SUB B", 1)`. -/
def exec_dd90_SUB_B (s : State) : Outcome := prefixedLine "SUB B" 1 s

/-- R4145: `DD 91`, `Plain("SUB C", 1)`. -/
def exec_dd91_SUB_C (s : State) : Outcome := prefixedLine "SUB C" 1 s

/-- R4146: `DD 92`, `Plain("SUB D", 1)`. -/
def exec_dd92_SUB_D (s : State) : Outcome := prefixedLine "SUB D" 1 s

/-- R4147: `DD 93`, `Plain("SUB E", 1)`. -/
def exec_dd93_SUB_E (s : State) : Outcome := prefixedLine "SUB E" 1 s

/-- R4148: `DD 94`, `Plain("SUB IXH", 1)`. -/
def exec_dd94_SUB_IXH (s : State) : Outcome := prefixedLine "SUB IXH" 1 s

/-- R4149: `DD 95`, `Plain("SUB IXL", 1)`. -/
def exec_dd95_SUB_IXL (s : State) : Outcome := prefixedLine "SUB IXL" 1 s

/-- R4150: `DD 96 d`, `Plain("SUB (IX+d)", 2)`. -/
def exec_dd96_SUB_mIXd (s : State) : Outcome := prefixedLine "SUB (IX+d)" 2 s

/-- R4151: `DD 97`, `Plain("SUB A", 1)`. -/
def exec_dd97_SUB_A (s : State) : Outcome := prefixedLine "SUB A" 1 s

/-- R4152: `DD 98`, `Plain("SBC A,B", 1)`. -/
def exec_dd98_SBC_A_B (s : State) : Outcome := prefixedLine "SBC A,B" 1 s

/-- R4153: `DD 99`, `Plain("SBC A,C", 1)`. -/
def exec_dd99_SBC_A_C (s : State) : Outcome := prefixedLine "SBC A,C" 1 s

/-- R4154: `DD 9A`, `Plain("SBC A,D", 1)`. -/
def exec_dd9A_SBC_A_D (s : State) : Outcome := prefixedLine "SBC A,D" 1 s

/-- R4155: `DD 9B`, `Plain("SBC A,E", 1)`. -/
def exec_dd9B_SBC_A_E (s : State) : Outcome := prefixedLine "SBC A,E" 1 s

/-- R4156: `DD 9C`, `Plain("SBC A,IXH", 1)`. -/
def exec_dd9C_SBC_A_IXH (s : State) : Outcome := prefixedLine "SBC A,IXH" 1 s

/-- R4157: `DD 9D`, `Plain("SBC A,IXL", 1)`. -/
def exec_dd9D_SBC_A_IXL (s : State) : Outcome := prefixedLine "SBC A,IXL" 1 s

/-- R4158: `DD 9E d`, `Plain("SBC A,(IX+d)", 2)`. -/
def exec_dd9E_SBC_A_mIXd (s : State) : Outcome := prefixedLine "SBC A,(IX+d)" 2 s

/-- R4159: `DD 9F`, `Plain("SBC A,A", 1)`. -/
def exec_dd9F_SBC_A_A (s : State) : Outcome := prefixedLine "SBC A,A" 1 s

/-- R4160: `DD A0`, `Plain("AND B", 1)`. -/
def exec_ddA0_AND_B (s : State) : Outcome := prefixedLine "AND B" 1 s

/-- R4161: `DD A1`, `Plain("AND C", 1)`. -/
def exec_ddA1_AND_C (s : State) : Outcome := prefixedLine "AND C" 1 s

/-- R4162: `DD A2`, `Plain("AND D", 1)`. -/
def exec_ddA2_AND_D (s : State) : Outcome := prefixedLine "AND D" 1 s

/-- R4163: `DD A3`, `Plain("AND E", 1)`. -/
def exec_ddA3_AND_E (s : State) : Outcome := prefixedLine "AND E" 1 s

/-- R4164: `DD A4`, `Plain("AND IXH", 1)`. -/
def exec_ddA4_AND_IXH (s : State) : Outcome := prefixedLine "AND IXH" 1 s

/-- R4165: `DD A5`, `Plain("AND IXL", 1)`. -/
def exec_ddA5_AND_IXL (s : State) : Outcome := prefixedLine "AND IXL" 1 s

/-- R4166: `DD A6 d`, `Plain("AND (IX+d)", 2)`. -/
def exec_ddA6_AND_mIXd (s : State) : Outcome := prefixedLine "AND (IX+d)" 2 s

/-- R4167: `DD A7`, `Plain("AND A", 1)`. -/
def exec_ddA7_AND_A (s : State) : Outcome := prefixedLine "AND A" 1 s

/-- R4168: `DD A8`, `Plain("XOR B", 1)`. -/
def exec_ddA8_XOR_B (s : State) : Outcome := prefixedLine "XOR B" 1 s

/-- R4169: `DD A9`, `Plain("XOR C", 1)`. -/
def exec_ddA9_XOR_C (s : State) : Outcome := prefixedLine "XOR C" 1 s

/-- R4170: `DD AA`, `Plain("XOR D", 1)`. -/
def exec_ddAA_XOR_D (s : State) : Outcome := prefixedLine "XOR D" 1 s

/-- R4171: `DD AB`, `Plain("XOR E", 1)`. -/
def exec_ddAB_XOR_E (s : State) : Outcome := prefixedLine "XOR E" 1 s

/-- R4172: `DD AC`, `Plain("XOR IXH", 1)`. -/
def exec_ddAC_XOR_IXH (s : State) : Outcome := prefixedLine "XOR IXH" 1 s

/-- R4173: `DD AD`, `Plain("XOR IXL", 1)`. -/
def exec_ddAD_XOR_IXL (s : State) : Outcome := prefixedLine "XOR IXL" 1 s

/-- R4174: `DD AE d`, `Plain("XOR (IX+d)", 2)`. -/
def exec_ddAE_XOR_mIXd (s : State) : Outcome := prefixedLine "XOR (IX+d)" 2 s

/-- R4175: `DD AF`, `Plain("XOR A", 1)`. -/
def exec_ddAF_XOR_A (s : State) : Outcome := prefixedLine "XOR A" 1 s

/-- R4176: `DD B0`, `Plain("OR B", 1)`. -/
def exec_ddB0_OR_B (s : State) : Outcome := prefixedLine "OR B" 1 s

/-- R4177: `DD B1`, `Plain("OR C", 1)`. -/
def exec_ddB1_OR_C (s : State) : Outcome := prefixedLine "OR C" 1 s

/-- R4178: `DD B2`, `Plain("OR D", 1)`. -/
def exec_ddB2_OR_D (s : State) : Outcome := prefixedLine "OR D" 1 s

/-- R4179: `DD B3`, `Plain("OR E", 1)`. -/
def exec_ddB3_OR_E (s : State) : Outcome := prefixedLine "OR E" 1 s

/-- R4180: `DD B4`, `Plain("OR IXH", 1)`. -/
def exec_ddB4_OR_IXH (s : State) : Outcome := prefixedLine "OR IXH" 1 s

/-- R4181: `DD B5`, `Plain("OR IXL", 1)`. -/
def exec_ddB5_OR_IXL (s : State) : Outcome := prefixedLine "OR IXL" 1 s

/-- R4182: `DD B6 d`, `Plain("OR (IX+d)", 2)`. -/
def exec_ddB6_OR_mIXd (s : State) : Outcome := prefixedLine "OR (IX+d)" 2 s

/-- R4183: `DD B7`, `Plain("OR A", 1)`. -/
def exec_ddB7_OR_A (s : State) : Outcome := prefixedLine "OR A" 1 s

/-- R4184: `DD B8`, `Plain("CP B", 1)`. -/
def exec_ddB8_CP_B (s : State) : Outcome := prefixedLine "CP B" 1 s

/-- R4185: `DD B9`, `Plain("CP C", 1)`. -/
def exec_ddB9_CP_C (s : State) : Outcome := prefixedLine "CP C" 1 s

/-- R4186: `DD BA`, `Plain("CP D", 1)`. -/
def exec_ddBA_CP_D (s : State) : Outcome := prefixedLine "CP D" 1 s

/-- R4187: `DD BB`, `Plain("CP E", 1)`. -/
def exec_ddBB_CP_E (s : State) : Outcome := prefixedLine "CP E" 1 s

/-- R4188: `DD BC`, `Plain("CP IXH", 1)`. -/
def exec_ddBC_CP_IXH (s : State) : Outcome := prefixedLine "CP IXH" 1 s

/-- R4189: `DD BD`, `Plain("CP IXL", 1)`. -/
def exec_ddBD_CP_IXL (s : State) : Outcome := prefixedLine "CP IXL" 1 s

/-- R4190: `DD BE d`, `Plain("CP (IX+d)", 2)`. -/
def exec_ddBE_CP_mIXd (s : State) : Outcome := prefixedLine "CP (IX+d)" 2 s

/-- R4191: `DD BF`, `Plain("CP A", 1)`. -/
def exec_ddBF_CP_A (s : State) : Outcome := prefixedLine "CP A" 1 s

/-- R4192: `DD C0`, `Plain("RET NZ", 1)`. -/
def exec_ddC0_RET_NZ (s : State) : Outcome := prefixedLine "RET NZ" 1 s

/-- R4193: `DD C1`, `Plain("POP BC", 1)`. -/
def exec_ddC1_POP_BC (s : State) : Outcome := prefixedLine "POP BC" 1 s

/-- R4194: `DD C2 lo hi`, `Plain("JP NZ,nn", 3)`. -/
def exec_ddC2_JP_NZ_nn (s : State) : Outcome := prefixedLine "JP NZ,nn" 3 s

/-- R4195: `DD C3 lo hi`, `Plain("JP nn", 3)`. -/
def exec_ddC3_JP_nn (s : State) : Outcome := prefixedLine "JP nn" 3 s

/-- R4196: `DD C4 lo hi`, `Plain("CALL NZ,nn", 3)`. -/
def exec_ddC4_CALL_NZ_nn (s : State) : Outcome := prefixedLine "CALL NZ,nn" 3 s

/-- R4197: `DD C5`, `Plain("PUSH BC", 1)`. -/
def exec_ddC5_PUSH_BC (s : State) : Outcome := prefixedLine "PUSH BC" 1 s

/-- R4198: `DD C6 n`, `Plain("ADD A,n", 2)`. -/
def exec_ddC6_ADD_A_n (s : State) : Outcome := prefixedLine "ADD A,n" 2 s

/-- R4199: `DD C7`, `Plain("RST 00H", 1)`. -/
def exec_ddC7_RST_00H (s : State) : Outcome := prefixedLine "RST 00H" 1 s

/-- R4200: `DD C8`, `Plain("RET Z", 1)`. -/
def exec_ddC8_RET_Z (s : State) : Outcome := prefixedLine "RET Z" 1 s

/-- R4201: `DD C9`, `Plain("RET", 1)`. -/
def exec_ddC9_RET (s : State) : Outcome := prefixedLine "RET" 1 s

/-- R4202: `DD CA lo hi`, `Plain("JP Z,nn", 3)`. -/
def exec_ddCA_JP_Z_nn (s : State) : Outcome := prefixedLine "JP Z,nn" 3 s

/-- R4203: `DD CB` is `DisplacedPrefixTo(DDCB)`. -/
def exec_ddCB_PREFIX_DDCB (s : State) : Outcome :=
  displacedRow (defaultTables s.placeholder) .ddcb s

/-- R4204: `DD CC lo hi`, `Plain("CALL Z,nn", 3)`. -/
def exec_ddCC_CALL_Z_nn (s : State) : Outcome := prefixedLine "CALL Z,nn" 3 s

/-- R4205: `DD CD lo hi`, `Plain("CALL nn", 3)`. -/
def exec_ddCD_CALL_nn (s : State) : Outcome := prefixedLine "CALL nn" 3 s

/-- R4206: `DD CE n`, `Plain("ADC A,n", 2)`. -/
def exec_ddCE_ADC_A_n (s : State) : Outcome := prefixedLine "ADC A,n" 2 s

/-- R4207: `DD CF`, `Plain("RST 08H", 1)`. -/
def exec_ddCF_RST_08H (s : State) : Outcome := prefixedLine "RST 08H" 1 s

/-- R4208: `DD D0`, `Plain("RET NC", 1)`. -/
def exec_ddD0_RET_NC (s : State) : Outcome := prefixedLine "RET NC" 1 s

/-- R4209: `DD D1`, `Plain("POP DE", 1)`. -/
def exec_ddD1_POP_DE (s : State) : Outcome := prefixedLine "POP DE" 1 s

/-- R4210: `DD D2 lo hi`, `Plain("JP NC,nn", 3)`. -/
def exec_ddD2_JP_NC_nn (s : State) : Outcome := prefixedLine "JP NC,nn" 3 s

/-- R4211: `DD D3 n`, `Plain("OUT (n),A", 2)`. -/
def exec_ddD3_OUT_mn_A (s : State) : Outcome := prefixedLine "OUT (n),A" 2 s

/-- R4212: `DD D4 lo hi`, `Plain("CALL NC,nn", 3)`. -/
def exec_ddD4_CALL_NC_nn (s : State) : Outcome := prefixedLine "CALL NC,nn" 3 s

/-- R4213: `DD D5`, `Plain("PUSH DE", 1)`. -/
def exec_ddD5_PUSH_DE (s : State) : Outcome := prefixedLine "PUSH DE" 1 s

/-- R4214: `DD D6 n`, `Plain("SUB n", 2)`. -/
def exec_ddD6_SUB_n (s : State) : Outcome := prefixedLine "SUB n" 2 s

/-- R4215: `DD D7`, `Plain("RST 10H", 1)`. -/
def exec_ddD7_RST_10H (s : State) : Outcome := prefixedLine "RST 10H" 1 s

/-- R4216: `DD D8`, `Plain("RET C", 1)`. -/
def exec_ddD8_RET_C (s : State) : Outcome := prefixedLine "RET C" 1 s

/-- R4217: `DD D9`, `Plain("EXX", 1)`. -/
def exec_ddD9_EXX (s : State) : Outcome := prefixedLine "EXX" 1 s

/-- R4218: `DD DA lo hi`, `Plain("JP C,nn", 3)`. -/
def exec_ddDA_JP_C_nn (s : State) : Outcome := prefixedLine "JP C,nn" 3 s

/-- R4219: `DD DB n`, `Plain("IN A,(n)", 2)`. -/
def exec_ddDB_IN_A_mn (s : State) : Outcome := prefixedLine "IN A,(n)" 2 s

/-- R4220: `DD DC lo hi`, `Plain("CALL C,nn", 3)`. -/
def exec_ddDC_CALL_C_nn (s : State) : Outcome := prefixedLine "CALL C,nn" 3 s

/-- R4221: `DD DD`, `Placeholder(PLACEHOLDER_MNEMONIC, 1)`. -/
def exec_ddDD_PLACEHOLDER (s : State) : Outcome := prefixedLine s.placeholder 1 s

/-- R4222: `DD DE n`, `Plain("SBC A,n", 2)`. -/
def exec_ddDE_SBC_A_n (s : State) : Outcome := prefixedLine "SBC A,n" 2 s

/-- R4223: `DD DF`, `Plain("RST 18H", 1)`. -/
def exec_ddDF_RST_18H (s : State) : Outcome := prefixedLine "RST 18H" 1 s

/-- R4224: `DD E0`, `Plain("RET PO", 1)`. -/
def exec_ddE0_RET_PO (s : State) : Outcome := prefixedLine "RET PO" 1 s

/-- R4225: `DD E1`, `Plain("POP IX", 1)`. -/
def exec_ddE1_POP_IX (s : State) : Outcome := prefixedLine "POP IX" 1 s

/-- R4226: `DD E2 lo hi`, `Plain("JP PO,nn", 3)`. -/
def exec_ddE2_JP_PO_nn (s : State) : Outcome := prefixedLine "JP PO,nn" 3 s

/-- R4227: `DD E3`, `Plain("EX (SP),IX", 1)`. -/
def exec_ddE3_EX_mSP_IX (s : State) : Outcome := prefixedLine "EX (SP),IX" 1 s

/-- R4228: `DD E4 lo hi`, `Plain("CALL PO,nn", 3)`. -/
def exec_ddE4_CALL_PO_nn (s : State) : Outcome := prefixedLine "CALL PO,nn" 3 s

/-- R4229: `DD E5`, `Plain("PUSH IX", 1)`. -/
def exec_ddE5_PUSH_IX (s : State) : Outcome := prefixedLine "PUSH IX" 1 s

/-- R4230: `DD E6 n`, `Plain("AND n", 2)`. -/
def exec_ddE6_AND_n (s : State) : Outcome := prefixedLine "AND n" 2 s

/-- R4231: `DD E7`, `Plain("RST 20H", 1)`. -/
def exec_ddE7_RST_20H (s : State) : Outcome := prefixedLine "RST 20H" 1 s

/-- R4232: `DD E8`, `Plain("RET PE", 1)`. -/
def exec_ddE8_RET_PE (s : State) : Outcome := prefixedLine "RET PE" 1 s

/-- R4233: `DD E9`, `Plain("JP (IX)", 1)`. -/
def exec_ddE9_JP_mIX (s : State) : Outcome := prefixedLine "JP (IX)" 1 s

/-- R4234: `DD EA lo hi`, `Plain("JP PE,nn", 3)`. -/
def exec_ddEA_JP_PE_nn (s : State) : Outcome := prefixedLine "JP PE,nn" 3 s

/-- R4235: `DD EB`, `Plain("EX DE,HL", 1)`. -/
def exec_ddEB_EX_DE_HL (s : State) : Outcome := prefixedLine "EX DE,HL" 1 s

/-- R4236: `DD EC lo hi`, `Plain("CALL PE,nn", 3)`. -/
def exec_ddEC_CALL_PE_nn (s : State) : Outcome := prefixedLine "CALL PE,nn" 3 s

/-- R4237: `DD ED`, `Placeholder(PLACEHOLDER_MNEMONIC, 1)`. -/
def exec_ddED_PLACEHOLDER (s : State) : Outcome := prefixedLine s.placeholder 1 s

/-- R4238: `DD EE n`, `Plain("XOR n", 2)`. -/
def exec_ddEE_XOR_n (s : State) : Outcome := prefixedLine "XOR n" 2 s

/-- R4239: `DD EF`, `Plain("RST 28H", 1)`. -/
def exec_ddEF_RST_28H (s : State) : Outcome := prefixedLine "RST 28H" 1 s

/-- R4240: `DD F0`, `Plain("RET P", 1)`. -/
def exec_ddF0_RET_P (s : State) : Outcome := prefixedLine "RET P" 1 s

/-- R4241: `DD F1`, `Plain("POP AF", 1)`. -/
def exec_ddF1_POP_AF (s : State) : Outcome := prefixedLine "POP AF" 1 s

/-- R4242: `DD F2 lo hi`, `Plain("JP P,nn", 3)`. -/
def exec_ddF2_JP_P_nn (s : State) : Outcome := prefixedLine "JP P,nn" 3 s

/-- R4243: `DD F3`, `Plain("DI", 1)`. -/
def exec_ddF3_DI (s : State) : Outcome := prefixedLine "DI" 1 s

/-- R4244: `DD F4 lo hi`, `Plain("CALL P,nn", 3)`. -/
def exec_ddF4_CALL_P_nn (s : State) : Outcome := prefixedLine "CALL P,nn" 3 s

/-- R4245: `DD F5`, `Plain("PUSH AF", 1)`. -/
def exec_ddF5_PUSH_AF (s : State) : Outcome := prefixedLine "PUSH AF" 1 s

/-- R4246: `DD F6 n`, `Plain("OR n", 2)`. -/
def exec_ddF6_OR_n (s : State) : Outcome := prefixedLine "OR n" 2 s

/-- R4247: `DD F7`, `Plain("RST 30H", 1)`. -/
def exec_ddF7_RST_30H (s : State) : Outcome := prefixedLine "RST 30H" 1 s

/-- R4248: `DD F8`, `Plain("RET M", 1)`. -/
def exec_ddF8_RET_M (s : State) : Outcome := prefixedLine "RET M" 1 s

/-- R4249: `DD F9`, `Plain("LD SP,IX", 1)`. -/
def exec_ddF9_LD_SP_IX (s : State) : Outcome := prefixedLine "LD SP,IX" 1 s

/-- R4250: `DD FA lo hi`, `Plain("JP M,nn", 3)`. -/
def exec_ddFA_JP_M_nn (s : State) : Outcome := prefixedLine "JP M,nn" 3 s

/-- R4251: `DD FB`, `Plain("EI", 1)`. -/
def exec_ddFB_EI (s : State) : Outcome := prefixedLine "EI" 1 s

/-- R4252: `DD FC lo hi`, `Plain("CALL M,nn", 3)`. -/
def exec_ddFC_CALL_M_nn (s : State) : Outcome := prefixedLine "CALL M,nn" 3 s

/-- R4253: `DD FD`, `Placeholder(PLACEHOLDER_MNEMONIC, 1)`. -/
def exec_ddFD_PLACEHOLDER (s : State) : Outcome := prefixedLine s.placeholder 1 s

/-- R4254: `DD FE n`, `Plain("CP n", 2)`. -/
def exec_ddFE_CP_n (s : State) : Outcome := prefixedLine "CP n" 2 s

/-- R4255: `DD FF`, `Plain("RST 38H", 1)`. -/
def exec_ddFF_RST_38H (s : State) : Outcome := prefixedLine "RST 38H" 1 s

end Sys2Proof.Machine
end

