-- ==== Sys2Proof/Machine/Ddcb.lean ====
section
/-! DEFINITION. The meanings of the DD CB displaced table: rules R6000 to R6255 of 46_ddcb_00-7F.md and 46_ddcb_80-FF.md, in index order. Each docstring gives the rule, the bytes in stream order and the descriptor. -/

namespace Sys2Proof.Machine

/-- R6000: `DD CB d 00`, `Plain("RLC (IX+d),B", 2)`. -/
def exec_ddcb00_RLC_mIXd_B (s : State) : Outcome := displacedLine "RLC (IX+d),B" s

/-- R6001: `DD CB d 01`, `Plain("RLC (IX+d),C", 2)`. -/
def exec_ddcb01_RLC_mIXd_C (s : State) : Outcome := displacedLine "RLC (IX+d),C" s

/-- R6002: `DD CB d 02`, `Plain("RLC (IX+d),D", 2)`. -/
def exec_ddcb02_RLC_mIXd_D (s : State) : Outcome := displacedLine "RLC (IX+d),D" s

/-- R6003: `DD CB d 03`, `Plain("RLC (IX+d),E", 2)`. -/
def exec_ddcb03_RLC_mIXd_E (s : State) : Outcome := displacedLine "RLC (IX+d),E" s

/-- R6004: `DD CB d 04`, `Plain("RLC (IX+d),H", 2)`. -/
def exec_ddcb04_RLC_mIXd_H (s : State) : Outcome := displacedLine "RLC (IX+d),H" s

/-- R6005: `DD CB d 05`, `Plain("RLC (IX+d),L", 2)`. -/
def exec_ddcb05_RLC_mIXd_L (s : State) : Outcome := displacedLine "RLC (IX+d),L" s

/-- R6006: `DD CB d 06`, `Plain("RLC (IX+d)", 2)`. -/
def exec_ddcb06_RLC_mIXd (s : State) : Outcome := displacedLine "RLC (IX+d)" s

/-- R6007: `DD CB d 07`, `Plain("RLC (IX+d),A", 2)`. -/
def exec_ddcb07_RLC_mIXd_A (s : State) : Outcome := displacedLine "RLC (IX+d),A" s

/-- R6008: `DD CB d 08`, `Plain("RRC (IX+d),B", 2)`. -/
def exec_ddcb08_RRC_mIXd_B (s : State) : Outcome := displacedLine "RRC (IX+d),B" s

/-- R6009: `DD CB d 09`, `Plain("RRC (IX+d),C", 2)`. -/
def exec_ddcb09_RRC_mIXd_C (s : State) : Outcome := displacedLine "RRC (IX+d),C" s

/-- R6010: `DD CB d 0A`, `Plain("RRC (IX+d),D", 2)`. -/
def exec_ddcb0A_RRC_mIXd_D (s : State) : Outcome := displacedLine "RRC (IX+d),D" s

/-- R6011: `DD CB d 0B`, `Plain("RRC (IX+d),E", 2)`. -/
def exec_ddcb0B_RRC_mIXd_E (s : State) : Outcome := displacedLine "RRC (IX+d),E" s

/-- R6012: `DD CB d 0C`, `Plain("RRC (IX+d),H", 2)`. -/
def exec_ddcb0C_RRC_mIXd_H (s : State) : Outcome := displacedLine "RRC (IX+d),H" s

/-- R6013: `DD CB d 0D`, `Plain("RRC (IX+d),L", 2)`. -/
def exec_ddcb0D_RRC_mIXd_L (s : State) : Outcome := displacedLine "RRC (IX+d),L" s

/-- R6014: `DD CB d 0E`, `Plain("RRC (IX+d)", 2)`. -/
def exec_ddcb0E_RRC_mIXd (s : State) : Outcome := displacedLine "RRC (IX+d)" s

/-- R6015: `DD CB d 0F`, `Plain("RRC (IX+d),A", 2)`. -/
def exec_ddcb0F_RRC_mIXd_A (s : State) : Outcome := displacedLine "RRC (IX+d),A" s

/-- R6016: `DD CB d 10`, `Plain("RL (IX+d),B", 2)`. -/
def exec_ddcb10_RL_mIXd_B (s : State) : Outcome := displacedLine "RL (IX+d),B" s

/-- R6017: `DD CB d 11`, `Plain("RL (IX+d),C", 2)`. -/
def exec_ddcb11_RL_mIXd_C (s : State) : Outcome := displacedLine "RL (IX+d),C" s

/-- R6018: `DD CB d 12`, `Plain("RL (IX+d),D", 2)`. -/
def exec_ddcb12_RL_mIXd_D (s : State) : Outcome := displacedLine "RL (IX+d),D" s

/-- R6019: `DD CB d 13`, `Plain("RL (IX+d),E", 2)`. -/
def exec_ddcb13_RL_mIXd_E (s : State) : Outcome := displacedLine "RL (IX+d),E" s

/-- R6020: `DD CB d 14`, `Plain("RL (IX+d),H", 2)`. -/
def exec_ddcb14_RL_mIXd_H (s : State) : Outcome := displacedLine "RL (IX+d),H" s

/-- R6021: `DD CB d 15`, `Plain("RL (IX+d),L", 2)`. -/
def exec_ddcb15_RL_mIXd_L (s : State) : Outcome := displacedLine "RL (IX+d),L" s

/-- R6022: `DD CB d 16`, `Plain("RL (IX+d)", 2)`. -/
def exec_ddcb16_RL_mIXd (s : State) : Outcome := displacedLine "RL (IX+d)" s

/-- R6023: `DD CB d 17`, `Plain("RL (IX+d),A", 2)`. -/
def exec_ddcb17_RL_mIXd_A (s : State) : Outcome := displacedLine "RL (IX+d),A" s

/-- R6024: `DD CB d 18`, `Plain("RR (IX+d),B", 2)`. -/
def exec_ddcb18_RR_mIXd_B (s : State) : Outcome := displacedLine "RR (IX+d),B" s

/-- R6025: `DD CB d 19`, `Plain("RR (IX+d),C", 2)`. -/
def exec_ddcb19_RR_mIXd_C (s : State) : Outcome := displacedLine "RR (IX+d),C" s

/-- R6026: `DD CB d 1A`, `Plain("RR (IX+d),D", 2)`. -/
def exec_ddcb1A_RR_mIXd_D (s : State) : Outcome := displacedLine "RR (IX+d),D" s

/-- R6027: `DD CB d 1B`, `Plain("RR (IX+d),E", 2)`. -/
def exec_ddcb1B_RR_mIXd_E (s : State) : Outcome := displacedLine "RR (IX+d),E" s

/-- R6028: `DD CB d 1C`, `Plain("RR (IX+d),H", 2)`. -/
def exec_ddcb1C_RR_mIXd_H (s : State) : Outcome := displacedLine "RR (IX+d),H" s

/-- R6029: `DD CB d 1D`, `Plain("RR (IX+d),L", 2)`. -/
def exec_ddcb1D_RR_mIXd_L (s : State) : Outcome := displacedLine "RR (IX+d),L" s

/-- R6030: `DD CB d 1E`, `Plain("RR (IX+d)", 2)`. -/
def exec_ddcb1E_RR_mIXd (s : State) : Outcome := displacedLine "RR (IX+d)" s

/-- R6031: `DD CB d 1F`, `Plain("RR (IX+d),A", 2)`. -/
def exec_ddcb1F_RR_mIXd_A (s : State) : Outcome := displacedLine "RR (IX+d),A" s

/-- R6032: `DD CB d 20`, `Plain("SLA (IX+d),B", 2)`. -/
def exec_ddcb20_SLA_mIXd_B (s : State) : Outcome := displacedLine "SLA (IX+d),B" s

/-- R6033: `DD CB d 21`, `Plain("SLA (IX+d),C", 2)`. -/
def exec_ddcb21_SLA_mIXd_C (s : State) : Outcome := displacedLine "SLA (IX+d),C" s

/-- R6034: `DD CB d 22`, `Plain("SLA (IX+d),D", 2)`. -/
def exec_ddcb22_SLA_mIXd_D (s : State) : Outcome := displacedLine "SLA (IX+d),D" s

/-- R6035: `DD CB d 23`, `Plain("SLA (IX+d),E", 2)`. -/
def exec_ddcb23_SLA_mIXd_E (s : State) : Outcome := displacedLine "SLA (IX+d),E" s

/-- R6036: `DD CB d 24`, `Plain("SLA (IX+d),H", 2)`. -/
def exec_ddcb24_SLA_mIXd_H (s : State) : Outcome := displacedLine "SLA (IX+d),H" s

/-- R6037: `DD CB d 25`, `Plain("SLA (IX+d),L", 2)`. -/
def exec_ddcb25_SLA_mIXd_L (s : State) : Outcome := displacedLine "SLA (IX+d),L" s

/-- R6038: `DD CB d 26`, `Plain("SLA (IX+d)", 2)`. -/
def exec_ddcb26_SLA_mIXd (s : State) : Outcome := displacedLine "SLA (IX+d)" s

/-- R6039: `DD CB d 27`, `Plain("SLA (IX+d),A", 2)`. -/
def exec_ddcb27_SLA_mIXd_A (s : State) : Outcome := displacedLine "SLA (IX+d),A" s

/-- R6040: `DD CB d 28`, `Plain("SRA (IX+d),B", 2)`. -/
def exec_ddcb28_SRA_mIXd_B (s : State) : Outcome := displacedLine "SRA (IX+d),B" s

/-- R6041: `DD CB d 29`, `Plain("SRA (IX+d),C", 2)`. -/
def exec_ddcb29_SRA_mIXd_C (s : State) : Outcome := displacedLine "SRA (IX+d),C" s

/-- R6042: `DD CB d 2A`, `Plain("SRA (IX+d),D", 2)`. -/
def exec_ddcb2A_SRA_mIXd_D (s : State) : Outcome := displacedLine "SRA (IX+d),D" s

/-- R6043: `DD CB d 2B`, `Plain("SRA (IX+d),E", 2)`. -/
def exec_ddcb2B_SRA_mIXd_E (s : State) : Outcome := displacedLine "SRA (IX+d),E" s

/-- R6044: `DD CB d 2C`, `Plain("SRA (IX+d),H", 2)`. -/
def exec_ddcb2C_SRA_mIXd_H (s : State) : Outcome := displacedLine "SRA (IX+d),H" s

/-- R6045: `DD CB d 2D`, `Plain("SRA (IX+d),L", 2)`. -/
def exec_ddcb2D_SRA_mIXd_L (s : State) : Outcome := displacedLine "SRA (IX+d),L" s

/-- R6046: `DD CB d 2E`, `Plain("SRA (IX+d)", 2)`. -/
def exec_ddcb2E_SRA_mIXd (s : State) : Outcome := displacedLine "SRA (IX+d)" s

/-- R6047: `DD CB d 2F`, `Plain("SRA (IX+d),A", 2)`. -/
def exec_ddcb2F_SRA_mIXd_A (s : State) : Outcome := displacedLine "SRA (IX+d),A" s

/-- R6048: `DD CB d 30`, `Plain("SLL (IX+d),B", 2)`. -/
def exec_ddcb30_SLL_mIXd_B (s : State) : Outcome := displacedLine "SLL (IX+d),B" s

/-- R6049: `DD CB d 31`, `Plain("SLL (IX+d),C", 2)`. -/
def exec_ddcb31_SLL_mIXd_C (s : State) : Outcome := displacedLine "SLL (IX+d),C" s

/-- R6050: `DD CB d 32`, `Plain("SLL (IX+d),D", 2)`. -/
def exec_ddcb32_SLL_mIXd_D (s : State) : Outcome := displacedLine "SLL (IX+d),D" s

/-- R6051: `DD CB d 33`, `Plain("SLL (IX+d),E", 2)`. -/
def exec_ddcb33_SLL_mIXd_E (s : State) : Outcome := displacedLine "SLL (IX+d),E" s

/-- R6052: `DD CB d 34`, `Plain("SLL (IX+d),H", 2)`. -/
def exec_ddcb34_SLL_mIXd_H (s : State) : Outcome := displacedLine "SLL (IX+d),H" s

/-- R6053: `DD CB d 35`, `Plain("SLL (IX+d),L", 2)`. -/
def exec_ddcb35_SLL_mIXd_L (s : State) : Outcome := displacedLine "SLL (IX+d),L" s

/-- R6054: `DD CB d 36`, `Plain("SLL (IX+d)", 2)`. -/
def exec_ddcb36_SLL_mIXd (s : State) : Outcome := displacedLine "SLL (IX+d)" s

/-- R6055: `DD CB d 37`, `Plain("SLL (IX+d),A", 2)`. -/
def exec_ddcb37_SLL_mIXd_A (s : State) : Outcome := displacedLine "SLL (IX+d),A" s

/-- R6056: `DD CB d 38`, `Plain("SRL (IX+d),B", 2)`. -/
def exec_ddcb38_SRL_mIXd_B (s : State) : Outcome := displacedLine "SRL (IX+d),B" s

/-- R6057: `DD CB d 39`, `Plain("SRL (IX+d),C", 2)`. -/
def exec_ddcb39_SRL_mIXd_C (s : State) : Outcome := displacedLine "SRL (IX+d),C" s

/-- R6058: `DD CB d 3A`, `Plain("SRL (IX+d),D", 2)`. -/
def exec_ddcb3A_SRL_mIXd_D (s : State) : Outcome := displacedLine "SRL (IX+d),D" s

/-- R6059: `DD CB d 3B`, `Plain("SRL (IX+d),E", 2)`. -/
def exec_ddcb3B_SRL_mIXd_E (s : State) : Outcome := displacedLine "SRL (IX+d),E" s

/-- R6060: `DD CB d 3C`, `Plain("SRL (IX+d),H", 2)`. -/
def exec_ddcb3C_SRL_mIXd_H (s : State) : Outcome := displacedLine "SRL (IX+d),H" s

/-- R6061: `DD CB d 3D`, `Plain("SRL (IX+d),L", 2)`. -/
def exec_ddcb3D_SRL_mIXd_L (s : State) : Outcome := displacedLine "SRL (IX+d),L" s

/-- R6062: `DD CB d 3E`, `Plain("SRL (IX+d)", 2)`. -/
def exec_ddcb3E_SRL_mIXd (s : State) : Outcome := displacedLine "SRL (IX+d)" s

/-- R6063: `DD CB d 3F`, `Plain("SRL (IX+d),A", 2)`. -/
def exec_ddcb3F_SRL_mIXd_A (s : State) : Outcome := displacedLine "SRL (IX+d),A" s

/-- R6064: `DD CB d 40`, `Plain("BIT 0,(IX+d)", 2)`. -/
def exec_ddcb40_BIT_0_mIXd (s : State) : Outcome := displacedLine "BIT 0,(IX+d)" s

/-- R6065: `DD CB d 41`, `Plain("BIT 0,(IX+d)", 2)`. -/
def exec_ddcb41_BIT_0_mIXd (s : State) : Outcome := displacedLine "BIT 0,(IX+d)" s

/-- R6066: `DD CB d 42`, `Plain("BIT 0,(IX+d)", 2)`. -/
def exec_ddcb42_BIT_0_mIXd (s : State) : Outcome := displacedLine "BIT 0,(IX+d)" s

/-- R6067: `DD CB d 43`, `Plain("BIT 0,(IX+d)", 2)`. -/
def exec_ddcb43_BIT_0_mIXd (s : State) : Outcome := displacedLine "BIT 0,(IX+d)" s

/-- R6068: `DD CB d 44`, `Plain("BIT 0,(IX+d)", 2)`. -/
def exec_ddcb44_BIT_0_mIXd (s : State) : Outcome := displacedLine "BIT 0,(IX+d)" s

/-- R6069: `DD CB d 45`, `Plain("BIT 0,(IX+d)", 2)`. -/
def exec_ddcb45_BIT_0_mIXd (s : State) : Outcome := displacedLine "BIT 0,(IX+d)" s

/-- R6070: `DD CB d 46`, `Plain("BIT 0,(IX+d)", 2)`. -/
def exec_ddcb46_BIT_0_mIXd (s : State) : Outcome := displacedLine "BIT 0,(IX+d)" s

/-- R6071: `DD CB d 47`, `Plain("BIT 0,(IX+d)", 2)`. -/
def exec_ddcb47_BIT_0_mIXd (s : State) : Outcome := displacedLine "BIT 0,(IX+d)" s

/-- R6072: `DD CB d 48`, `Plain("BIT 1,(IX+d)", 2)`. -/
def exec_ddcb48_BIT_1_mIXd (s : State) : Outcome := displacedLine "BIT 1,(IX+d)" s

/-- R6073: `DD CB d 49`, `Plain("BIT 1,(IX+d)", 2)`. -/
def exec_ddcb49_BIT_1_mIXd (s : State) : Outcome := displacedLine "BIT 1,(IX+d)" s

/-- R6074: `DD CB d 4A`, `Plain("BIT 1,(IX+d)", 2)`. -/
def exec_ddcb4A_BIT_1_mIXd (s : State) : Outcome := displacedLine "BIT 1,(IX+d)" s

/-- R6075: `DD CB d 4B`, `Plain("BIT 1,(IX+d)", 2)`. -/
def exec_ddcb4B_BIT_1_mIXd (s : State) : Outcome := displacedLine "BIT 1,(IX+d)" s

/-- R6076: `DD CB d 4C`, `Plain("BIT 1,(IX+d)", 2)`. -/
def exec_ddcb4C_BIT_1_mIXd (s : State) : Outcome := displacedLine "BIT 1,(IX+d)" s

/-- R6077: `DD CB d 4D`, `Plain("BIT 1,(IX+d)", 2)`. -/
def exec_ddcb4D_BIT_1_mIXd (s : State) : Outcome := displacedLine "BIT 1,(IX+d)" s

/-- R6078: `DD CB d 4E`, `Plain("BIT 1,(IX+d)", 2)`. -/
def exec_ddcb4E_BIT_1_mIXd (s : State) : Outcome := displacedLine "BIT 1,(IX+d)" s

/-- R6079: `DD CB d 4F`, `Plain("BIT 1,(IX+d)", 2)`. -/
def exec_ddcb4F_BIT_1_mIXd (s : State) : Outcome := displacedLine "BIT 1,(IX+d)" s

/-- R6080: `DD CB d 50`, `Plain("BIT 2,(IX+d)", 2)`. -/
def exec_ddcb50_BIT_2_mIXd (s : State) : Outcome := displacedLine "BIT 2,(IX+d)" s

/-- R6081: `DD CB d 51`, `Plain("BIT 2,(IX+d)", 2)`. -/
def exec_ddcb51_BIT_2_mIXd (s : State) : Outcome := displacedLine "BIT 2,(IX+d)" s

/-- R6082: `DD CB d 52`, `Plain("BIT 2,(IX+d)", 2)`. -/
def exec_ddcb52_BIT_2_mIXd (s : State) : Outcome := displacedLine "BIT 2,(IX+d)" s

/-- R6083: `DD CB d 53`, `Plain("BIT 2,(IX+d)", 2)`. -/
def exec_ddcb53_BIT_2_mIXd (s : State) : Outcome := displacedLine "BIT 2,(IX+d)" s

/-- R6084: `DD CB d 54`, `Plain("BIT 2,(IX+d)", 2)`. -/
def exec_ddcb54_BIT_2_mIXd (s : State) : Outcome := displacedLine "BIT 2,(IX+d)" s

/-- R6085: `DD CB d 55`, `Plain("BIT 2,(IX+d)", 2)`. -/
def exec_ddcb55_BIT_2_mIXd (s : State) : Outcome := displacedLine "BIT 2,(IX+d)" s

/-- R6086: `DD CB d 56`, `Plain("BIT 2,(IX+d)", 2)`. -/
def exec_ddcb56_BIT_2_mIXd (s : State) : Outcome := displacedLine "BIT 2,(IX+d)" s

/-- R6087: `DD CB d 57`, `Plain("BIT 2,(IX+d)", 2)`. -/
def exec_ddcb57_BIT_2_mIXd (s : State) : Outcome := displacedLine "BIT 2,(IX+d)" s

/-- R6088: `DD CB d 58`, `Plain("BIT 3,(IX+d)", 2)`. -/
def exec_ddcb58_BIT_3_mIXd (s : State) : Outcome := displacedLine "BIT 3,(IX+d)" s

/-- R6089: `DD CB d 59`, `Plain("BIT 3,(IX+d)", 2)`. -/
def exec_ddcb59_BIT_3_mIXd (s : State) : Outcome := displacedLine "BIT 3,(IX+d)" s

/-- R6090: `DD CB d 5A`, `Plain("BIT 3,(IX+d)", 2)`. -/
def exec_ddcb5A_BIT_3_mIXd (s : State) : Outcome := displacedLine "BIT 3,(IX+d)" s

/-- R6091: `DD CB d 5B`, `Plain("BIT 3,(IX+d)", 2)`. -/
def exec_ddcb5B_BIT_3_mIXd (s : State) : Outcome := displacedLine "BIT 3,(IX+d)" s

/-- R6092: `DD CB d 5C`, `Plain("BIT 3,(IX+d)", 2)`. -/
def exec_ddcb5C_BIT_3_mIXd (s : State) : Outcome := displacedLine "BIT 3,(IX+d)" s

/-- R6093: `DD CB d 5D`, `Plain("BIT 3,(IX+d)", 2)`. -/
def exec_ddcb5D_BIT_3_mIXd (s : State) : Outcome := displacedLine "BIT 3,(IX+d)" s

/-- R6094: `DD CB d 5E`, `Plain("BIT 3,(IX+d)", 2)`. -/
def exec_ddcb5E_BIT_3_mIXd (s : State) : Outcome := displacedLine "BIT 3,(IX+d)" s

/-- R6095: `DD CB d 5F`, `Plain("BIT 3,(IX+d)", 2)`. -/
def exec_ddcb5F_BIT_3_mIXd (s : State) : Outcome := displacedLine "BIT 3,(IX+d)" s

/-- R6096: `DD CB d 60`, `Plain("BIT 4,(IX+d)", 2)`. -/
def exec_ddcb60_BIT_4_mIXd (s : State) : Outcome := displacedLine "BIT 4,(IX+d)" s

/-- R6097: `DD CB d 61`, `Plain("BIT 4,(IX+d)", 2)`. -/
def exec_ddcb61_BIT_4_mIXd (s : State) : Outcome := displacedLine "BIT 4,(IX+d)" s

/-- R6098: `DD CB d 62`, `Plain("BIT 4,(IX+d)", 2)`. -/
def exec_ddcb62_BIT_4_mIXd (s : State) : Outcome := displacedLine "BIT 4,(IX+d)" s

/-- R6099: `DD CB d 63`, `Plain("BIT 4,(IX+d)", 2)`. -/
def exec_ddcb63_BIT_4_mIXd (s : State) : Outcome := displacedLine "BIT 4,(IX+d)" s

/-- R6100: `DD CB d 64`, `Plain("BIT 4,(IX+d)", 2)`. -/
def exec_ddcb64_BIT_4_mIXd (s : State) : Outcome := displacedLine "BIT 4,(IX+d)" s

/-- R6101: `DD CB d 65`, `Plain("BIT 4,(IX+d)", 2)`. -/
def exec_ddcb65_BIT_4_mIXd (s : State) : Outcome := displacedLine "BIT 4,(IX+d)" s

/-- R6102: `DD CB d 66`, `Plain("BIT 4,(IX+d)", 2)`. -/
def exec_ddcb66_BIT_4_mIXd (s : State) : Outcome := displacedLine "BIT 4,(IX+d)" s

/-- R6103: `DD CB d 67`, `Plain("BIT 4,(IX+d)", 2)`. -/
def exec_ddcb67_BIT_4_mIXd (s : State) : Outcome := displacedLine "BIT 4,(IX+d)" s

/-- R6104: `DD CB d 68`, `Plain("BIT 5,(IX+d)", 2)`. -/
def exec_ddcb68_BIT_5_mIXd (s : State) : Outcome := displacedLine "BIT 5,(IX+d)" s

/-- R6105: `DD CB d 69`, `Plain("BIT 5,(IX+d)", 2)`. -/
def exec_ddcb69_BIT_5_mIXd (s : State) : Outcome := displacedLine "BIT 5,(IX+d)" s

/-- R6106: `DD CB d 6A`, `Plain("BIT 5,(IX+d)", 2)`. -/
def exec_ddcb6A_BIT_5_mIXd (s : State) : Outcome := displacedLine "BIT 5,(IX+d)" s

/-- R6107: `DD CB d 6B`, `Plain("BIT 5,(IX+d)", 2)`. -/
def exec_ddcb6B_BIT_5_mIXd (s : State) : Outcome := displacedLine "BIT 5,(IX+d)" s

/-- R6108: `DD CB d 6C`, `Plain("BIT 5,(IX+d)", 2)`. -/
def exec_ddcb6C_BIT_5_mIXd (s : State) : Outcome := displacedLine "BIT 5,(IX+d)" s

/-- R6109: `DD CB d 6D`, `Plain("BIT 5,(IX+d)", 2)`. -/
def exec_ddcb6D_BIT_5_mIXd (s : State) : Outcome := displacedLine "BIT 5,(IX+d)" s

/-- R6110: `DD CB d 6E`, `Plain("BIT 5,(IX+d)", 2)`. -/
def exec_ddcb6E_BIT_5_mIXd (s : State) : Outcome := displacedLine "BIT 5,(IX+d)" s

/-- R6111: `DD CB d 6F`, `Plain("BIT 5,(IX+d)", 2)`. -/
def exec_ddcb6F_BIT_5_mIXd (s : State) : Outcome := displacedLine "BIT 5,(IX+d)" s

/-- R6112: `DD CB d 70`, `Plain("BIT 6,(IX+d)", 2)`. -/
def exec_ddcb70_BIT_6_mIXd (s : State) : Outcome := displacedLine "BIT 6,(IX+d)" s

/-- R6113: `DD CB d 71`, `Plain("BIT 6,(IX+d)", 2)`. -/
def exec_ddcb71_BIT_6_mIXd (s : State) : Outcome := displacedLine "BIT 6,(IX+d)" s

/-- R6114: `DD CB d 72`, `Plain("BIT 6,(IX+d)", 2)`. -/
def exec_ddcb72_BIT_6_mIXd (s : State) : Outcome := displacedLine "BIT 6,(IX+d)" s

/-- R6115: `DD CB d 73`, `Plain("BIT 6,(IX+d)", 2)`. -/
def exec_ddcb73_BIT_6_mIXd (s : State) : Outcome := displacedLine "BIT 6,(IX+d)" s

/-- R6116: `DD CB d 74`, `Plain("BIT 6,(IX+d)", 2)`. -/
def exec_ddcb74_BIT_6_mIXd (s : State) : Outcome := displacedLine "BIT 6,(IX+d)" s

/-- R6117: `DD CB d 75`, `Plain("BIT 6,(IX+d)", 2)`. -/
def exec_ddcb75_BIT_6_mIXd (s : State) : Outcome := displacedLine "BIT 6,(IX+d)" s

/-- R6118: `DD CB d 76`, `Plain("BIT 6,(IX+d)", 2)`. -/
def exec_ddcb76_BIT_6_mIXd (s : State) : Outcome := displacedLine "BIT 6,(IX+d)" s

/-- R6119: `DD CB d 77`, `Plain("BIT 6,(IX+d)", 2)`. -/
def exec_ddcb77_BIT_6_mIXd (s : State) : Outcome := displacedLine "BIT 6,(IX+d)" s

/-- R6120: `DD CB d 78`, `Plain("BIT 7,(IX+d)", 2)`. -/
def exec_ddcb78_BIT_7_mIXd (s : State) : Outcome := displacedLine "BIT 7,(IX+d)" s

/-- R6121: `DD CB d 79`, `Plain("BIT 7,(IX+d)", 2)`. -/
def exec_ddcb79_BIT_7_mIXd (s : State) : Outcome := displacedLine "BIT 7,(IX+d)" s

/-- R6122: `DD CB d 7A`, `Plain("BIT 7,(IX+d)", 2)`. -/
def exec_ddcb7A_BIT_7_mIXd (s : State) : Outcome := displacedLine "BIT 7,(IX+d)" s

/-- R6123: `DD CB d 7B`, `Plain("BIT 7,(IX+d)", 2)`. -/
def exec_ddcb7B_BIT_7_mIXd (s : State) : Outcome := displacedLine "BIT 7,(IX+d)" s

/-- R6124: `DD CB d 7C`, `Plain("BIT 7,(IX+d)", 2)`. -/
def exec_ddcb7C_BIT_7_mIXd (s : State) : Outcome := displacedLine "BIT 7,(IX+d)" s

/-- R6125: `DD CB d 7D`, `Plain("BIT 7,(IX+d)", 2)`. -/
def exec_ddcb7D_BIT_7_mIXd (s : State) : Outcome := displacedLine "BIT 7,(IX+d)" s

/-- R6126: `DD CB d 7E`, `Plain("BIT 7,(IX+d)", 2)`. -/
def exec_ddcb7E_BIT_7_mIXd (s : State) : Outcome := displacedLine "BIT 7,(IX+d)" s

/-- R6127: `DD CB d 7F`, `Plain("BIT 7,(IX+d)", 2)`. -/
def exec_ddcb7F_BIT_7_mIXd (s : State) : Outcome := displacedLine "BIT 7,(IX+d)" s

/-- R6128: `DD CB d 80`, `Plain("RES 0,(IX+d),B", 2)`. -/
def exec_ddcb80_RES_0_mIXd_B (s : State) : Outcome := displacedLine "RES 0,(IX+d),B" s

/-- R6129: `DD CB d 81`, `Plain("RES 0,(IX+d),C", 2)`. -/
def exec_ddcb81_RES_0_mIXd_C (s : State) : Outcome := displacedLine "RES 0,(IX+d),C" s

/-- R6130: `DD CB d 82`, `Plain("RES 0,(IX+d),D", 2)`. -/
def exec_ddcb82_RES_0_mIXd_D (s : State) : Outcome := displacedLine "RES 0,(IX+d),D" s

/-- R6131: `DD CB d 83`, `Plain("RES 0,(IX+d),E", 2)`. -/
def exec_ddcb83_RES_0_mIXd_E (s : State) : Outcome := displacedLine "RES 0,(IX+d),E" s

/-- R6132: `DD CB d 84`, `Plain("RES 0,(IX+d),H", 2)`. -/
def exec_ddcb84_RES_0_mIXd_H (s : State) : Outcome := displacedLine "RES 0,(IX+d),H" s

/-- R6133: `DD CB d 85`, `Plain("RES 0,(IX+d),L", 2)`. -/
def exec_ddcb85_RES_0_mIXd_L (s : State) : Outcome := displacedLine "RES 0,(IX+d),L" s

/-- R6134: `DD CB d 86`, `Plain("RES 0,(IX+d)", 2)`. -/
def exec_ddcb86_RES_0_mIXd (s : State) : Outcome := displacedLine "RES 0,(IX+d)" s

/-- R6135: `DD CB d 87`, `Plain("RES 0,(IX+d),A", 2)`. -/
def exec_ddcb87_RES_0_mIXd_A (s : State) : Outcome := displacedLine "RES 0,(IX+d),A" s

/-- R6136: `DD CB d 88`, `Plain("RES 1,(IX+d),B", 2)`. -/
def exec_ddcb88_RES_1_mIXd_B (s : State) : Outcome := displacedLine "RES 1,(IX+d),B" s

/-- R6137: `DD CB d 89`, `Plain("RES 1,(IX+d),C", 2)`. -/
def exec_ddcb89_RES_1_mIXd_C (s : State) : Outcome := displacedLine "RES 1,(IX+d),C" s

/-- R6138: `DD CB d 8A`, `Plain("RES 1,(IX+d),D", 2)`. -/
def exec_ddcb8A_RES_1_mIXd_D (s : State) : Outcome := displacedLine "RES 1,(IX+d),D" s

/-- R6139: `DD CB d 8B`, `Plain("RES 1,(IX+d),E", 2)`. -/
def exec_ddcb8B_RES_1_mIXd_E (s : State) : Outcome := displacedLine "RES 1,(IX+d),E" s

/-- R6140: `DD CB d 8C`, `Plain("RES 1,(IX+d),H", 2)`. -/
def exec_ddcb8C_RES_1_mIXd_H (s : State) : Outcome := displacedLine "RES 1,(IX+d),H" s

/-- R6141: `DD CB d 8D`, `Plain("RES 1,(IX+d),L", 2)`. -/
def exec_ddcb8D_RES_1_mIXd_L (s : State) : Outcome := displacedLine "RES 1,(IX+d),L" s

/-- R6142: `DD CB d 8E`, `Plain("RES 1,(IX+d)", 2)`. -/
def exec_ddcb8E_RES_1_mIXd (s : State) : Outcome := displacedLine "RES 1,(IX+d)" s

/-- R6143: `DD CB d 8F`, `Plain("RES 1,(IX+d),A", 2)`. -/
def exec_ddcb8F_RES_1_mIXd_A (s : State) : Outcome := displacedLine "RES 1,(IX+d),A" s

/-- R6144: `DD CB d 90`, `Plain("RES 2,(IX+d),B", 2)`. -/
def exec_ddcb90_RES_2_mIXd_B (s : State) : Outcome := displacedLine "RES 2,(IX+d),B" s

/-- R6145: `DD CB d 91`, `Plain("RES 2,(IX+d),C", 2)`. -/
def exec_ddcb91_RES_2_mIXd_C (s : State) : Outcome := displacedLine "RES 2,(IX+d),C" s

/-- R6146: `DD CB d 92`, `Plain("RES 2,(IX+d),D", 2)`. -/
def exec_ddcb92_RES_2_mIXd_D (s : State) : Outcome := displacedLine "RES 2,(IX+d),D" s

/-- R6147: `DD CB d 93`, `Plain("RES 2,(IX+d),E", 2)`. -/
def exec_ddcb93_RES_2_mIXd_E (s : State) : Outcome := displacedLine "RES 2,(IX+d),E" s

/-- R6148: `DD CB d 94`, `Plain("RES 2,(IX+d),H", 2)`. -/
def exec_ddcb94_RES_2_mIXd_H (s : State) : Outcome := displacedLine "RES 2,(IX+d),H" s

/-- R6149: `DD CB d 95`, `Plain("RES 2,(IX+d),L", 2)`. -/
def exec_ddcb95_RES_2_mIXd_L (s : State) : Outcome := displacedLine "RES 2,(IX+d),L" s

/-- R6150: `DD CB d 96`, `Plain("RES 2,(IX+d)", 2)`. -/
def exec_ddcb96_RES_2_mIXd (s : State) : Outcome := displacedLine "RES 2,(IX+d)" s

/-- R6151: `DD CB d 97`, `Plain("RES 2,(IX+d),A", 2)`. -/
def exec_ddcb97_RES_2_mIXd_A (s : State) : Outcome := displacedLine "RES 2,(IX+d),A" s

/-- R6152: `DD CB d 98`, `Plain("RES 3,(IX+d),B", 2)`. -/
def exec_ddcb98_RES_3_mIXd_B (s : State) : Outcome := displacedLine "RES 3,(IX+d),B" s

/-- R6153: `DD CB d 99`, `Plain("RES 3,(IX+d),C", 2)`. -/
def exec_ddcb99_RES_3_mIXd_C (s : State) : Outcome := displacedLine "RES 3,(IX+d),C" s

/-- R6154: `DD CB d 9A`, `Plain("RES 3,(IX+d),D", 2)`. -/
def exec_ddcb9A_RES_3_mIXd_D (s : State) : Outcome := displacedLine "RES 3,(IX+d),D" s

/-- R6155: `DD CB d 9B`, `Plain("RES 3,(IX+d),E", 2)`. -/
def exec_ddcb9B_RES_3_mIXd_E (s : State) : Outcome := displacedLine "RES 3,(IX+d),E" s

/-- R6156: `DD CB d 9C`, `Plain("RES 3,(IX+d),H", 2)`. -/
def exec_ddcb9C_RES_3_mIXd_H (s : State) : Outcome := displacedLine "RES 3,(IX+d),H" s

/-- R6157: `DD CB d 9D`, `Plain("RES 3,(IX+d),L", 2)`. -/
def exec_ddcb9D_RES_3_mIXd_L (s : State) : Outcome := displacedLine "RES 3,(IX+d),L" s

/-- R6158: `DD CB d 9E`, `Plain("RES 3,(IX+d)", 2)`. -/
def exec_ddcb9E_RES_3_mIXd (s : State) : Outcome := displacedLine "RES 3,(IX+d)" s

/-- R6159: `DD CB d 9F`, `Plain("RES 3,(IX+d),A", 2)`. -/
def exec_ddcb9F_RES_3_mIXd_A (s : State) : Outcome := displacedLine "RES 3,(IX+d),A" s

/-- R6160: `DD CB d A0`, `Plain("RES 4,(IX+d),B", 2)`. -/
def exec_ddcbA0_RES_4_mIXd_B (s : State) : Outcome := displacedLine "RES 4,(IX+d),B" s

/-- R6161: `DD CB d A1`, `Plain("RES 4,(IX+d),C", 2)`. -/
def exec_ddcbA1_RES_4_mIXd_C (s : State) : Outcome := displacedLine "RES 4,(IX+d),C" s

/-- R6162: `DD CB d A2`, `Plain("RES 4,(IX+d),D", 2)`. -/
def exec_ddcbA2_RES_4_mIXd_D (s : State) : Outcome := displacedLine "RES 4,(IX+d),D" s

/-- R6163: `DD CB d A3`, `Plain("RES 4,(IX+d),E", 2)`. -/
def exec_ddcbA3_RES_4_mIXd_E (s : State) : Outcome := displacedLine "RES 4,(IX+d),E" s

/-- R6164: `DD CB d A4`, `Plain("RES 4,(IX+d),H", 2)`. -/
def exec_ddcbA4_RES_4_mIXd_H (s : State) : Outcome := displacedLine "RES 4,(IX+d),H" s

/-- R6165: `DD CB d A5`, `Plain("RES 4,(IX+d),L", 2)`. -/
def exec_ddcbA5_RES_4_mIXd_L (s : State) : Outcome := displacedLine "RES 4,(IX+d),L" s

/-- R6166: `DD CB d A6`, `Plain("RES 4,(IX+d)", 2)`. -/
def exec_ddcbA6_RES_4_mIXd (s : State) : Outcome := displacedLine "RES 4,(IX+d)" s

/-- R6167: `DD CB d A7`, `Plain("RES 4,(IX+d),A", 2)`. -/
def exec_ddcbA7_RES_4_mIXd_A (s : State) : Outcome := displacedLine "RES 4,(IX+d),A" s

/-- R6168: `DD CB d A8`, `Plain("RES 5,(IX+d),B", 2)`. -/
def exec_ddcbA8_RES_5_mIXd_B (s : State) : Outcome := displacedLine "RES 5,(IX+d),B" s

/-- R6169: `DD CB d A9`, `Plain("RES 5,(IX+d),C", 2)`. -/
def exec_ddcbA9_RES_5_mIXd_C (s : State) : Outcome := displacedLine "RES 5,(IX+d),C" s

/-- R6170: `DD CB d AA`, `Plain("RES 5,(IX+d),D", 2)`. -/
def exec_ddcbAA_RES_5_mIXd_D (s : State) : Outcome := displacedLine "RES 5,(IX+d),D" s

/-- R6171: `DD CB d AB`, `Plain("RES 5,(IX+d),E", 2)`. -/
def exec_ddcbAB_RES_5_mIXd_E (s : State) : Outcome := displacedLine "RES 5,(IX+d),E" s

/-- R6172: `DD CB d AC`, `Plain("RES 5,(IX+d),H", 2)`. -/
def exec_ddcbAC_RES_5_mIXd_H (s : State) : Outcome := displacedLine "RES 5,(IX+d),H" s

/-- R6173: `DD CB d AD`, `Plain("RES 5,(IX+d),L", 2)`. -/
def exec_ddcbAD_RES_5_mIXd_L (s : State) : Outcome := displacedLine "RES 5,(IX+d),L" s

/-- R6174: `DD CB d AE`, `Plain("RES 5,(IX+d)", 2)`. -/
def exec_ddcbAE_RES_5_mIXd (s : State) : Outcome := displacedLine "RES 5,(IX+d)" s

/-- R6175: `DD CB d AF`, `Plain("RES 5,(IX+d),A", 2)`. -/
def exec_ddcbAF_RES_5_mIXd_A (s : State) : Outcome := displacedLine "RES 5,(IX+d),A" s

/-- R6176: `DD CB d B0`, `Plain("RES 6,(IX+d),B", 2)`. -/
def exec_ddcbB0_RES_6_mIXd_B (s : State) : Outcome := displacedLine "RES 6,(IX+d),B" s

/-- R6177: `DD CB d B1`, `Plain("RES 6,(IX+d),C", 2)`. -/
def exec_ddcbB1_RES_6_mIXd_C (s : State) : Outcome := displacedLine "RES 6,(IX+d),C" s

/-- R6178: `DD CB d B2`, `Plain("RES 6,(IX+d),D", 2)`. -/
def exec_ddcbB2_RES_6_mIXd_D (s : State) : Outcome := displacedLine "RES 6,(IX+d),D" s

/-- R6179: `DD CB d B3`, `Plain("RES 6,(IX+d),E", 2)`. -/
def exec_ddcbB3_RES_6_mIXd_E (s : State) : Outcome := displacedLine "RES 6,(IX+d),E" s

/-- R6180: `DD CB d B4`, `Plain("RES 6,(IX+d),H", 2)`. -/
def exec_ddcbB4_RES_6_mIXd_H (s : State) : Outcome := displacedLine "RES 6,(IX+d),H" s

/-- R6181: `DD CB d B5`, `Plain("RES 6,(IX+d),L", 2)`. -/
def exec_ddcbB5_RES_6_mIXd_L (s : State) : Outcome := displacedLine "RES 6,(IX+d),L" s

/-- R6182: `DD CB d B6`, `Plain("RES 6,(IX+d)", 2)`. -/
def exec_ddcbB6_RES_6_mIXd (s : State) : Outcome := displacedLine "RES 6,(IX+d)" s

/-- R6183: `DD CB d B7`, `Plain("RES 6,(IX+d),A", 2)`. -/
def exec_ddcbB7_RES_6_mIXd_A (s : State) : Outcome := displacedLine "RES 6,(IX+d),A" s

/-- R6184: `DD CB d B8`, `Plain("RES 7,(IX+d),B", 2)`. -/
def exec_ddcbB8_RES_7_mIXd_B (s : State) : Outcome := displacedLine "RES 7,(IX+d),B" s

/-- R6185: `DD CB d B9`, `Plain("RES 7,(IX+d),C", 2)`. -/
def exec_ddcbB9_RES_7_mIXd_C (s : State) : Outcome := displacedLine "RES 7,(IX+d),C" s

/-- R6186: `DD CB d BA`, `Plain("RES 7,(IX+d),D", 2)`. -/
def exec_ddcbBA_RES_7_mIXd_D (s : State) : Outcome := displacedLine "RES 7,(IX+d),D" s

/-- R6187: `DD CB d BB`, `Plain("RES 7,(IX+d),E", 2)`. -/
def exec_ddcbBB_RES_7_mIXd_E (s : State) : Outcome := displacedLine "RES 7,(IX+d),E" s

/-- R6188: `DD CB d BC`, `Plain("RES 7,(IX+d),H", 2)`. -/
def exec_ddcbBC_RES_7_mIXd_H (s : State) : Outcome := displacedLine "RES 7,(IX+d),H" s

/-- R6189: `DD CB d BD`, `Plain("RES 7,(IX+d),L", 2)`. -/
def exec_ddcbBD_RES_7_mIXd_L (s : State) : Outcome := displacedLine "RES 7,(IX+d),L" s

/-- R6190: `DD CB d BE`, `Plain("RES 7,(IX+d)", 2)`. -/
def exec_ddcbBE_RES_7_mIXd (s : State) : Outcome := displacedLine "RES 7,(IX+d)" s

/-- R6191: `DD CB d BF`, `Plain("RES 7,(IX+d),A", 2)`. -/
def exec_ddcbBF_RES_7_mIXd_A (s : State) : Outcome := displacedLine "RES 7,(IX+d),A" s

/-- R6192: `DD CB d C0`, `Plain("SET 0,(IX+d),B", 2)`. -/
def exec_ddcbC0_SET_0_mIXd_B (s : State) : Outcome := displacedLine "SET 0,(IX+d),B" s

/-- R6193: `DD CB d C1`, `Plain("SET 0,(IX+d),C", 2)`. -/
def exec_ddcbC1_SET_0_mIXd_C (s : State) : Outcome := displacedLine "SET 0,(IX+d),C" s

/-- R6194: `DD CB d C2`, `Plain("SET 0,(IX+d),D", 2)`. -/
def exec_ddcbC2_SET_0_mIXd_D (s : State) : Outcome := displacedLine "SET 0,(IX+d),D" s

/-- R6195: `DD CB d C3`, `Plain("SET 0,(IX+d),E", 2)`. -/
def exec_ddcbC3_SET_0_mIXd_E (s : State) : Outcome := displacedLine "SET 0,(IX+d),E" s

/-- R6196: `DD CB d C4`, `Plain("SET 0,(IX+d),H", 2)`. -/
def exec_ddcbC4_SET_0_mIXd_H (s : State) : Outcome := displacedLine "SET 0,(IX+d),H" s

/-- R6197: `DD CB d C5`, `Plain("SET 0,(IX+d),L", 2)`. -/
def exec_ddcbC5_SET_0_mIXd_L (s : State) : Outcome := displacedLine "SET 0,(IX+d),L" s

/-- R6198: `DD CB d C6`, `Plain("SET 0,(IX+d)", 2)`. -/
def exec_ddcbC6_SET_0_mIXd (s : State) : Outcome := displacedLine "SET 0,(IX+d)" s

/-- R6199: `DD CB d C7`, `Plain("SET 0,(IX+d),A", 2)`. -/
def exec_ddcbC7_SET_0_mIXd_A (s : State) : Outcome := displacedLine "SET 0,(IX+d),A" s

/-- R6200: `DD CB d C8`, `Plain("SET 1,(IX+d),B", 2)`. -/
def exec_ddcbC8_SET_1_mIXd_B (s : State) : Outcome := displacedLine "SET 1,(IX+d),B" s

/-- R6201: `DD CB d C9`, `Plain("SET 1,(IX+d),C", 2)`. -/
def exec_ddcbC9_SET_1_mIXd_C (s : State) : Outcome := displacedLine "SET 1,(IX+d),C" s

/-- R6202: `DD CB d CA`, `Plain("SET 1,(IX+d),D", 2)`. -/
def exec_ddcbCA_SET_1_mIXd_D (s : State) : Outcome := displacedLine "SET 1,(IX+d),D" s

/-- R6203: `DD CB d CB`, `Plain("SET 1,(IX+d),E", 2)`. -/
def exec_ddcbCB_SET_1_mIXd_E (s : State) : Outcome := displacedLine "SET 1,(IX+d),E" s

/-- R6204: `DD CB d CC`, `Plain("SET 1,(IX+d),H", 2)`. -/
def exec_ddcbCC_SET_1_mIXd_H (s : State) : Outcome := displacedLine "SET 1,(IX+d),H" s

/-- R6205: `DD CB d CD`, `Plain("SET 1,(IX+d),L", 2)`. -/
def exec_ddcbCD_SET_1_mIXd_L (s : State) : Outcome := displacedLine "SET 1,(IX+d),L" s

/-- R6206: `DD CB d CE`, `Plain("SET 1,(IX+d)", 2)`. -/
def exec_ddcbCE_SET_1_mIXd (s : State) : Outcome := displacedLine "SET 1,(IX+d)" s

/-- R6207: `DD CB d CF`, `Plain("SET 1,(IX+d),A", 2)`. -/
def exec_ddcbCF_SET_1_mIXd_A (s : State) : Outcome := displacedLine "SET 1,(IX+d),A" s

/-- R6208: `DD CB d D0`, `Plain("SET 2,(IX+d),B", 2)`. -/
def exec_ddcbD0_SET_2_mIXd_B (s : State) : Outcome := displacedLine "SET 2,(IX+d),B" s

/-- R6209: `DD CB d D1`, `Plain("SET 2,(IX+d),C", 2)`. -/
def exec_ddcbD1_SET_2_mIXd_C (s : State) : Outcome := displacedLine "SET 2,(IX+d),C" s

/-- R6210: `DD CB d D2`, `Plain("SET 2,(IX+d),D", 2)`. -/
def exec_ddcbD2_SET_2_mIXd_D (s : State) : Outcome := displacedLine "SET 2,(IX+d),D" s

/-- R6211: `DD CB d D3`, `Plain("SET 2,(IX+d),E", 2)`. -/
def exec_ddcbD3_SET_2_mIXd_E (s : State) : Outcome := displacedLine "SET 2,(IX+d),E" s

/-- R6212: `DD CB d D4`, `Plain("SET 2,(IX+d),H", 2)`. -/
def exec_ddcbD4_SET_2_mIXd_H (s : State) : Outcome := displacedLine "SET 2,(IX+d),H" s

/-- R6213: `DD CB d D5`, `Plain("SET 2,(IX+d),L", 2)`. -/
def exec_ddcbD5_SET_2_mIXd_L (s : State) : Outcome := displacedLine "SET 2,(IX+d),L" s

/-- R6214: `DD CB d D6`, `Plain("SET 2,(IX+d)", 2)`. -/
def exec_ddcbD6_SET_2_mIXd (s : State) : Outcome := displacedLine "SET 2,(IX+d)" s

/-- R6215: `DD CB d D7`, `Plain("SET 2,(IX+d),A", 2)`. -/
def exec_ddcbD7_SET_2_mIXd_A (s : State) : Outcome := displacedLine "SET 2,(IX+d),A" s

/-- R6216: `DD CB d D8`, `Plain("SET 3,(IX+d),B", 2)`. -/
def exec_ddcbD8_SET_3_mIXd_B (s : State) : Outcome := displacedLine "SET 3,(IX+d),B" s

/-- R6217: `DD CB d D9`, `Plain("SET 3,(IX+d),C", 2)`. -/
def exec_ddcbD9_SET_3_mIXd_C (s : State) : Outcome := displacedLine "SET 3,(IX+d),C" s

/-- R6218: `DD CB d DA`, `Plain("SET 3,(IX+d),D", 2)`. -/
def exec_ddcbDA_SET_3_mIXd_D (s : State) : Outcome := displacedLine "SET 3,(IX+d),D" s

/-- R6219: `DD CB d DB`, `Plain("SET 3,(IX+d),E", 2)`. -/
def exec_ddcbDB_SET_3_mIXd_E (s : State) : Outcome := displacedLine "SET 3,(IX+d),E" s

/-- R6220: `DD CB d DC`, `Plain("SET 3,(IX+d),H", 2)`. -/
def exec_ddcbDC_SET_3_mIXd_H (s : State) : Outcome := displacedLine "SET 3,(IX+d),H" s

/-- R6221: `DD CB d DD`, `Plain("SET 3,(IX+d),L", 2)`. -/
def exec_ddcbDD_SET_3_mIXd_L (s : State) : Outcome := displacedLine "SET 3,(IX+d),L" s

/-- R6222: `DD CB d DE`, `Plain("SET 3,(IX+d)", 2)`. -/
def exec_ddcbDE_SET_3_mIXd (s : State) : Outcome := displacedLine "SET 3,(IX+d)" s

/-- R6223: `DD CB d DF`, `Plain("SET 3,(IX+d),A", 2)`. -/
def exec_ddcbDF_SET_3_mIXd_A (s : State) : Outcome := displacedLine "SET 3,(IX+d),A" s

/-- R6224: `DD CB d E0`, `Plain("SET 4,(IX+d),B", 2)`. -/
def exec_ddcbE0_SET_4_mIXd_B (s : State) : Outcome := displacedLine "SET 4,(IX+d),B" s

/-- R6225: `DD CB d E1`, `Plain("SET 4,(IX+d),C", 2)`. -/
def exec_ddcbE1_SET_4_mIXd_C (s : State) : Outcome := displacedLine "SET 4,(IX+d),C" s

/-- R6226: `DD CB d E2`, `Plain("SET 4,(IX+d),D", 2)`. -/
def exec_ddcbE2_SET_4_mIXd_D (s : State) : Outcome := displacedLine "SET 4,(IX+d),D" s

/-- R6227: `DD CB d E3`, `Plain("SET 4,(IX+d),E", 2)`. -/
def exec_ddcbE3_SET_4_mIXd_E (s : State) : Outcome := displacedLine "SET 4,(IX+d),E" s

/-- R6228: `DD CB d E4`, `Plain("SET 4,(IX+d),H", 2)`. -/
def exec_ddcbE4_SET_4_mIXd_H (s : State) : Outcome := displacedLine "SET 4,(IX+d),H" s

/-- R6229: `DD CB d E5`, `Plain("SET 4,(IX+d),L", 2)`. -/
def exec_ddcbE5_SET_4_mIXd_L (s : State) : Outcome := displacedLine "SET 4,(IX+d),L" s

/-- R6230: `DD CB d E6`, `Plain("SET 4,(IX+d)", 2)`. -/
def exec_ddcbE6_SET_4_mIXd (s : State) : Outcome := displacedLine "SET 4,(IX+d)" s

/-- R6231: `DD CB d E7`, `Plain("SET 4,(IX+d),A", 2)`. -/
def exec_ddcbE7_SET_4_mIXd_A (s : State) : Outcome := displacedLine "SET 4,(IX+d),A" s

/-- R6232: `DD CB d E8`, `Plain("SET 5,(IX+d),B", 2)`. -/
def exec_ddcbE8_SET_5_mIXd_B (s : State) : Outcome := displacedLine "SET 5,(IX+d),B" s

/-- R6233: `DD CB d E9`, `Plain("SET 5,(IX+d),C", 2)`. -/
def exec_ddcbE9_SET_5_mIXd_C (s : State) : Outcome := displacedLine "SET 5,(IX+d),C" s

/-- R6234: `DD CB d EA`, `Plain("SET 5,(IX+d),D", 2)`. -/
def exec_ddcbEA_SET_5_mIXd_D (s : State) : Outcome := displacedLine "SET 5,(IX+d),D" s

/-- R6235: `DD CB d EB`, `Plain("SET 5,(IX+d),E", 2)`. -/
def exec_ddcbEB_SET_5_mIXd_E (s : State) : Outcome := displacedLine "SET 5,(IX+d),E" s

/-- R6236: `DD CB d EC`, `Plain("SET 5,(IX+d),H", 2)`. -/
def exec_ddcbEC_SET_5_mIXd_H (s : State) : Outcome := displacedLine "SET 5,(IX+d),H" s

/-- R6237: `DD CB d ED`, `Plain("SET 5,(IX+d),L", 2)`. -/
def exec_ddcbED_SET_5_mIXd_L (s : State) : Outcome := displacedLine "SET 5,(IX+d),L" s

/-- R6238: `DD CB d EE`, `Plain("SET 5,(IX+d)", 2)`. -/
def exec_ddcbEE_SET_5_mIXd (s : State) : Outcome := displacedLine "SET 5,(IX+d)" s

/-- R6239: `DD CB d EF`, `Plain("SET 5,(IX+d),A", 2)`. -/
def exec_ddcbEF_SET_5_mIXd_A (s : State) : Outcome := displacedLine "SET 5,(IX+d),A" s

/-- R6240: `DD CB d F0`, `Plain("SET 6,(IX+d),B", 2)`. -/
def exec_ddcbF0_SET_6_mIXd_B (s : State) : Outcome := displacedLine "SET 6,(IX+d),B" s

/-- R6241: `DD CB d F1`, `Plain("SET 6,(IX+d),C", 2)`. -/
def exec_ddcbF1_SET_6_mIXd_C (s : State) : Outcome := displacedLine "SET 6,(IX+d),C" s

/-- R6242: `DD CB d F2`, `Plain("SET 6,(IX+d),D", 2)`. -/
def exec_ddcbF2_SET_6_mIXd_D (s : State) : Outcome := displacedLine "SET 6,(IX+d),D" s

/-- R6243: `DD CB d F3`, `Plain("SET 6,(IX+d),E", 2)`. -/
def exec_ddcbF3_SET_6_mIXd_E (s : State) : Outcome := displacedLine "SET 6,(IX+d),E" s

/-- R6244: `DD CB d F4`, `Plain("SET 6,(IX+d),H", 2)`. -/
def exec_ddcbF4_SET_6_mIXd_H (s : State) : Outcome := displacedLine "SET 6,(IX+d),H" s

/-- R6245: `DD CB d F5`, `Plain("SET 6,(IX+d),L", 2)`. -/
def exec_ddcbF5_SET_6_mIXd_L (s : State) : Outcome := displacedLine "SET 6,(IX+d),L" s

/-- R6246: `DD CB d F6`, `Plain("SET 6,(IX+d)", 2)`. -/
def exec_ddcbF6_SET_6_mIXd (s : State) : Outcome := displacedLine "SET 6,(IX+d)" s

/-- R6247: `DD CB d F7`, `Plain("SET 6,(IX+d),A", 2)`. -/
def exec_ddcbF7_SET_6_mIXd_A (s : State) : Outcome := displacedLine "SET 6,(IX+d),A" s

/-- R6248: `DD CB d F8`, `Plain("SET 7,(IX+d),B", 2)`. -/
def exec_ddcbF8_SET_7_mIXd_B (s : State) : Outcome := displacedLine "SET 7,(IX+d),B" s

/-- R6249: `DD CB d F9`, `Plain("SET 7,(IX+d),C", 2)`. -/
def exec_ddcbF9_SET_7_mIXd_C (s : State) : Outcome := displacedLine "SET 7,(IX+d),C" s

/-- R6250: `DD CB d FA`, `Plain("SET 7,(IX+d),D", 2)`. -/
def exec_ddcbFA_SET_7_mIXd_D (s : State) : Outcome := displacedLine "SET 7,(IX+d),D" s

/-- R6251: `DD CB d FB`, `Plain("SET 7,(IX+d),E", 2)`. -/
def exec_ddcbFB_SET_7_mIXd_E (s : State) : Outcome := displacedLine "SET 7,(IX+d),E" s

/-- R6252: `DD CB d FC`, `Plain("SET 7,(IX+d),H", 2)`. -/
def exec_ddcbFC_SET_7_mIXd_H (s : State) : Outcome := displacedLine "SET 7,(IX+d),H" s

/-- R6253: `DD CB d FD`, `Plain("SET 7,(IX+d),L", 2)`. -/
def exec_ddcbFD_SET_7_mIXd_L (s : State) : Outcome := displacedLine "SET 7,(IX+d),L" s

/-- R6254: `DD CB d FE`, `Plain("SET 7,(IX+d)", 2)`. -/
def exec_ddcbFE_SET_7_mIXd (s : State) : Outcome := displacedLine "SET 7,(IX+d)" s

/-- R6255: `DD CB d FF`, `Plain("SET 7,(IX+d),A", 2)`. -/
def exec_ddcbFF_SET_7_mIXd_A (s : State) : Outcome := displacedLine "SET 7,(IX+d),A" s

end Sys2Proof.Machine
end

