-- ==== Sys2Proof/Machine/Ed.lean ====
section
/-! DEFINITION. The meanings of the ED table: rules R3000 to R3255 of 43_ed_00-7F.md and 43_ed_80-FF.md, in index order. Each docstring gives the rule, the bytes in stream order and the descriptor. -/

namespace Sys2Proof.Machine

/-- R3000: `ED 00`, `Placeholder(PLACEHOLDER_MNEMONIC, 1)`. -/
def exec_ed00_PLACEHOLDER (s : State) : Outcome := prefixedLine s.placeholder 1 s

/-- R3001: `ED 01`, `Placeholder(PLACEHOLDER_MNEMONIC, 1)`. -/
def exec_ed01_PLACEHOLDER (s : State) : Outcome := prefixedLine s.placeholder 1 s

/-- R3002: `ED 02`, `Placeholder(PLACEHOLDER_MNEMONIC, 1)`. -/
def exec_ed02_PLACEHOLDER (s : State) : Outcome := prefixedLine s.placeholder 1 s

/-- R3003: `ED 03`, `Placeholder(PLACEHOLDER_MNEMONIC, 1)`. -/
def exec_ed03_PLACEHOLDER (s : State) : Outcome := prefixedLine s.placeholder 1 s

/-- R3004: `ED 04`, `Placeholder(PLACEHOLDER_MNEMONIC, 1)`. -/
def exec_ed04_PLACEHOLDER (s : State) : Outcome := prefixedLine s.placeholder 1 s

/-- R3005: `ED 05`, `Placeholder(PLACEHOLDER_MNEMONIC, 1)`. -/
def exec_ed05_PLACEHOLDER (s : State) : Outcome := prefixedLine s.placeholder 1 s

/-- R3006: `ED 06`, `Placeholder(PLACEHOLDER_MNEMONIC, 1)`. -/
def exec_ed06_PLACEHOLDER (s : State) : Outcome := prefixedLine s.placeholder 1 s

/-- R3007: `ED 07`, `Placeholder(PLACEHOLDER_MNEMONIC, 1)`. -/
def exec_ed07_PLACEHOLDER (s : State) : Outcome := prefixedLine s.placeholder 1 s

/-- R3008: `ED 08`, `Placeholder(PLACEHOLDER_MNEMONIC, 1)`. -/
def exec_ed08_PLACEHOLDER (s : State) : Outcome := prefixedLine s.placeholder 1 s

/-- R3009: `ED 09`, `Placeholder(PLACEHOLDER_MNEMONIC, 1)`. -/
def exec_ed09_PLACEHOLDER (s : State) : Outcome := prefixedLine s.placeholder 1 s

/-- R3010: `ED 0A`, `Placeholder(PLACEHOLDER_MNEMONIC, 1)`. -/
def exec_ed0A_PLACEHOLDER (s : State) : Outcome := prefixedLine s.placeholder 1 s

/-- R3011: `ED 0B`, `Placeholder(PLACEHOLDER_MNEMONIC, 1)`. -/
def exec_ed0B_PLACEHOLDER (s : State) : Outcome := prefixedLine s.placeholder 1 s

/-- R3012: `ED 0C`, `Placeholder(PLACEHOLDER_MNEMONIC, 1)`. -/
def exec_ed0C_PLACEHOLDER (s : State) : Outcome := prefixedLine s.placeholder 1 s

/-- R3013: `ED 0D`, `Placeholder(PLACEHOLDER_MNEMONIC, 1)`. -/
def exec_ed0D_PLACEHOLDER (s : State) : Outcome := prefixedLine s.placeholder 1 s

/-- R3014: `ED 0E`, `Placeholder(PLACEHOLDER_MNEMONIC, 1)`. -/
def exec_ed0E_PLACEHOLDER (s : State) : Outcome := prefixedLine s.placeholder 1 s

/-- R3015: `ED 0F`, `Placeholder(PLACEHOLDER_MNEMONIC, 1)`. -/
def exec_ed0F_PLACEHOLDER (s : State) : Outcome := prefixedLine s.placeholder 1 s

/-- R3016: `ED 10`, `Placeholder(PLACEHOLDER_MNEMONIC, 1)`. -/
def exec_ed10_PLACEHOLDER (s : State) : Outcome := prefixedLine s.placeholder 1 s

/-- R3017: `ED 11`, `Placeholder(PLACEHOLDER_MNEMONIC, 1)`. -/
def exec_ed11_PLACEHOLDER (s : State) : Outcome := prefixedLine s.placeholder 1 s

/-- R3018: `ED 12`, `Placeholder(PLACEHOLDER_MNEMONIC, 1)`. -/
def exec_ed12_PLACEHOLDER (s : State) : Outcome := prefixedLine s.placeholder 1 s

/-- R3019: `ED 13`, `Placeholder(PLACEHOLDER_MNEMONIC, 1)`. -/
def exec_ed13_PLACEHOLDER (s : State) : Outcome := prefixedLine s.placeholder 1 s

/-- R3020: `ED 14`, `Placeholder(PLACEHOLDER_MNEMONIC, 1)`. -/
def exec_ed14_PLACEHOLDER (s : State) : Outcome := prefixedLine s.placeholder 1 s

/-- R3021: `ED 15`, `Placeholder(PLACEHOLDER_MNEMONIC, 1)`. -/
def exec_ed15_PLACEHOLDER (s : State) : Outcome := prefixedLine s.placeholder 1 s

/-- R3022: `ED 16`, `Placeholder(PLACEHOLDER_MNEMONIC, 1)`. -/
def exec_ed16_PLACEHOLDER (s : State) : Outcome := prefixedLine s.placeholder 1 s

/-- R3023: `ED 17`, `Placeholder(PLACEHOLDER_MNEMONIC, 1)`. -/
def exec_ed17_PLACEHOLDER (s : State) : Outcome := prefixedLine s.placeholder 1 s

/-- R3024: `ED 18`, `Placeholder(PLACEHOLDER_MNEMONIC, 1)`. -/
def exec_ed18_PLACEHOLDER (s : State) : Outcome := prefixedLine s.placeholder 1 s

/-- R3025: `ED 19`, `Placeholder(PLACEHOLDER_MNEMONIC, 1)`. -/
def exec_ed19_PLACEHOLDER (s : State) : Outcome := prefixedLine s.placeholder 1 s

/-- R3026: `ED 1A`, `Placeholder(PLACEHOLDER_MNEMONIC, 1)`. -/
def exec_ed1A_PLACEHOLDER (s : State) : Outcome := prefixedLine s.placeholder 1 s

/-- R3027: `ED 1B`, `Placeholder(PLACEHOLDER_MNEMONIC, 1)`. -/
def exec_ed1B_PLACEHOLDER (s : State) : Outcome := prefixedLine s.placeholder 1 s

/-- R3028: `ED 1C`, `Placeholder(PLACEHOLDER_MNEMONIC, 1)`. -/
def exec_ed1C_PLACEHOLDER (s : State) : Outcome := prefixedLine s.placeholder 1 s

/-- R3029: `ED 1D`, `Placeholder(PLACEHOLDER_MNEMONIC, 1)`. -/
def exec_ed1D_PLACEHOLDER (s : State) : Outcome := prefixedLine s.placeholder 1 s

/-- R3030: `ED 1E`, `Placeholder(PLACEHOLDER_MNEMONIC, 1)`. -/
def exec_ed1E_PLACEHOLDER (s : State) : Outcome := prefixedLine s.placeholder 1 s

/-- R3031: `ED 1F`, `Placeholder(PLACEHOLDER_MNEMONIC, 1)`. -/
def exec_ed1F_PLACEHOLDER (s : State) : Outcome := prefixedLine s.placeholder 1 s

/-- R3032: `ED 20`, `Placeholder(PLACEHOLDER_MNEMONIC, 1)`. -/
def exec_ed20_PLACEHOLDER (s : State) : Outcome := prefixedLine s.placeholder 1 s

/-- R3033: `ED 21`, `Placeholder(PLACEHOLDER_MNEMONIC, 1)`. -/
def exec_ed21_PLACEHOLDER (s : State) : Outcome := prefixedLine s.placeholder 1 s

/-- R3034: `ED 22`, `Placeholder(PLACEHOLDER_MNEMONIC, 1)`. -/
def exec_ed22_PLACEHOLDER (s : State) : Outcome := prefixedLine s.placeholder 1 s

/-- R3035: `ED 23`, `Placeholder(PLACEHOLDER_MNEMONIC, 1)`. -/
def exec_ed23_PLACEHOLDER (s : State) : Outcome := prefixedLine s.placeholder 1 s

/-- R3036: `ED 24`, `Placeholder(PLACEHOLDER_MNEMONIC, 1)`. -/
def exec_ed24_PLACEHOLDER (s : State) : Outcome := prefixedLine s.placeholder 1 s

/-- R3037: `ED 25`, `Placeholder(PLACEHOLDER_MNEMONIC, 1)`. -/
def exec_ed25_PLACEHOLDER (s : State) : Outcome := prefixedLine s.placeholder 1 s

/-- R3038: `ED 26`, `Placeholder(PLACEHOLDER_MNEMONIC, 1)`. -/
def exec_ed26_PLACEHOLDER (s : State) : Outcome := prefixedLine s.placeholder 1 s

/-- R3039: `ED 27`, `Placeholder(PLACEHOLDER_MNEMONIC, 1)`. -/
def exec_ed27_PLACEHOLDER (s : State) : Outcome := prefixedLine s.placeholder 1 s

/-- R3040: `ED 28`, `Placeholder(PLACEHOLDER_MNEMONIC, 1)`. -/
def exec_ed28_PLACEHOLDER (s : State) : Outcome := prefixedLine s.placeholder 1 s

/-- R3041: `ED 29`, `Placeholder(PLACEHOLDER_MNEMONIC, 1)`. -/
def exec_ed29_PLACEHOLDER (s : State) : Outcome := prefixedLine s.placeholder 1 s

/-- R3042: `ED 2A`, `Placeholder(PLACEHOLDER_MNEMONIC, 1)`. -/
def exec_ed2A_PLACEHOLDER (s : State) : Outcome := prefixedLine s.placeholder 1 s

/-- R3043: `ED 2B`, `Placeholder(PLACEHOLDER_MNEMONIC, 1)`. -/
def exec_ed2B_PLACEHOLDER (s : State) : Outcome := prefixedLine s.placeholder 1 s

/-- R3044: `ED 2C`, `Placeholder(PLACEHOLDER_MNEMONIC, 1)`. -/
def exec_ed2C_PLACEHOLDER (s : State) : Outcome := prefixedLine s.placeholder 1 s

/-- R3045: `ED 2D`, `Placeholder(PLACEHOLDER_MNEMONIC, 1)`. -/
def exec_ed2D_PLACEHOLDER (s : State) : Outcome := prefixedLine s.placeholder 1 s

/-- R3046: `ED 2E`, `Placeholder(PLACEHOLDER_MNEMONIC, 1)`. -/
def exec_ed2E_PLACEHOLDER (s : State) : Outcome := prefixedLine s.placeholder 1 s

/-- R3047: `ED 2F`, `Placeholder(PLACEHOLDER_MNEMONIC, 1)`. -/
def exec_ed2F_PLACEHOLDER (s : State) : Outcome := prefixedLine s.placeholder 1 s

/-- R3048: `ED 30`, `Placeholder(PLACEHOLDER_MNEMONIC, 1)`. -/
def exec_ed30_PLACEHOLDER (s : State) : Outcome := prefixedLine s.placeholder 1 s

/-- R3049: `ED 31`, `Placeholder(PLACEHOLDER_MNEMONIC, 1)`. -/
def exec_ed31_PLACEHOLDER (s : State) : Outcome := prefixedLine s.placeholder 1 s

/-- R3050: `ED 32`, `Placeholder(PLACEHOLDER_MNEMONIC, 1)`. -/
def exec_ed32_PLACEHOLDER (s : State) : Outcome := prefixedLine s.placeholder 1 s

/-- R3051: `ED 33`, `Placeholder(PLACEHOLDER_MNEMONIC, 1)`. -/
def exec_ed33_PLACEHOLDER (s : State) : Outcome := prefixedLine s.placeholder 1 s

/-- R3052: `ED 34`, `Placeholder(PLACEHOLDER_MNEMONIC, 1)`. -/
def exec_ed34_PLACEHOLDER (s : State) : Outcome := prefixedLine s.placeholder 1 s

/-- R3053: `ED 35`, `Placeholder(PLACEHOLDER_MNEMONIC, 1)`. -/
def exec_ed35_PLACEHOLDER (s : State) : Outcome := prefixedLine s.placeholder 1 s

/-- R3054: `ED 36`, `Placeholder(PLACEHOLDER_MNEMONIC, 1)`. -/
def exec_ed36_PLACEHOLDER (s : State) : Outcome := prefixedLine s.placeholder 1 s

/-- R3055: `ED 37`, `Placeholder(PLACEHOLDER_MNEMONIC, 1)`. -/
def exec_ed37_PLACEHOLDER (s : State) : Outcome := prefixedLine s.placeholder 1 s

/-- R3056: `ED 38`, `Placeholder(PLACEHOLDER_MNEMONIC, 1)`. -/
def exec_ed38_PLACEHOLDER (s : State) : Outcome := prefixedLine s.placeholder 1 s

/-- R3057: `ED 39`, `Placeholder(PLACEHOLDER_MNEMONIC, 1)`. -/
def exec_ed39_PLACEHOLDER (s : State) : Outcome := prefixedLine s.placeholder 1 s

/-- R3058: `ED 3A`, `Placeholder(PLACEHOLDER_MNEMONIC, 1)`. -/
def exec_ed3A_PLACEHOLDER (s : State) : Outcome := prefixedLine s.placeholder 1 s

/-- R3059: `ED 3B`, `Placeholder(PLACEHOLDER_MNEMONIC, 1)`. -/
def exec_ed3B_PLACEHOLDER (s : State) : Outcome := prefixedLine s.placeholder 1 s

/-- R3060: `ED 3C`, `Placeholder(PLACEHOLDER_MNEMONIC, 1)`. -/
def exec_ed3C_PLACEHOLDER (s : State) : Outcome := prefixedLine s.placeholder 1 s

/-- R3061: `ED 3D`, `Placeholder(PLACEHOLDER_MNEMONIC, 1)`. -/
def exec_ed3D_PLACEHOLDER (s : State) : Outcome := prefixedLine s.placeholder 1 s

/-- R3062: `ED 3E`, `Placeholder(PLACEHOLDER_MNEMONIC, 1)`. -/
def exec_ed3E_PLACEHOLDER (s : State) : Outcome := prefixedLine s.placeholder 1 s

/-- R3063: `ED 3F`, `Placeholder(PLACEHOLDER_MNEMONIC, 1)`. -/
def exec_ed3F_PLACEHOLDER (s : State) : Outcome := prefixedLine s.placeholder 1 s

/-- R3064: `ED 40`, `Plain("IN B,(C)", 1)`. -/
def exec_ed40_IN_B_mC (s : State) : Outcome := prefixedLine "IN B,(C)" 1 s

/-- R3065: `ED 41`, `Plain("OUT (C),B", 1)`. -/
def exec_ed41_OUT_mC_B (s : State) : Outcome := prefixedLine "OUT (C),B" 1 s

/-- R3066: `ED 42`, `Plain("SBC HL,BC", 1)`. -/
def exec_ed42_SBC_HL_BC (s : State) : Outcome := prefixedLine "SBC HL,BC" 1 s

/-- R3067: `ED 43 lo hi`, `Plain("LD (nn),BC", 3)`. -/
def exec_ed43_LD_mnn_BC (s : State) : Outcome := prefixedLine "LD (nn),BC" 3 s

/-- R3068: `ED 44`, `Plain("NEG", 1)`. -/
def exec_ed44_NEG (s : State) : Outcome := prefixedLine "NEG" 1 s

/-- R3069: `ED 45`, `Plain("RETN", 1)`. -/
def exec_ed45_RETN (s : State) : Outcome := prefixedLine "RETN" 1 s

/-- R3070: `ED 46`, `Plain("IM 0", 1)`. -/
def exec_ed46_IM_0 (s : State) : Outcome := prefixedLine "IM 0" 1 s

/-- R3071: `ED 47`, `Plain("LD I,A", 1)`. -/
def exec_ed47_LD_I_A (s : State) : Outcome := prefixedLine "LD I,A" 1 s

/-- R3072: `ED 48`, `Plain("IN C,(C)", 1)`. -/
def exec_ed48_IN_C_mC (s : State) : Outcome := prefixedLine "IN C,(C)" 1 s

/-- R3073: `ED 49`, `Plain("OUT (C),C", 1)`. -/
def exec_ed49_OUT_mC_C (s : State) : Outcome := prefixedLine "OUT (C),C" 1 s

/-- R3074: `ED 4A`, `Plain("ADC HL,BC", 1)`. -/
def exec_ed4A_ADC_HL_BC (s : State) : Outcome := prefixedLine "ADC HL,BC" 1 s

/-- R3075: `ED 4B lo hi`, `Plain("LD BC,(nn)", 3)`. -/
def exec_ed4B_LD_BC_mnn (s : State) : Outcome := prefixedLine "LD BC,(nn)" 3 s

/-- R3076: `ED 4C`, `Plain("NEG", 1)`. -/
def exec_ed4C_NEG (s : State) : Outcome := prefixedLine "NEG" 1 s

/-- R3077: `ED 4D`, `Plain("RETI", 1)`. -/
def exec_ed4D_RETI (s : State) : Outcome := prefixedLine "RETI" 1 s

/-- R3078: `ED 4E`, `Plain("IM 0", 1)`. -/
def exec_ed4E_IM_0 (s : State) : Outcome := prefixedLine "IM 0" 1 s

/-- R3079: `ED 4F`, `Plain("LD R,A", 1)`. -/
def exec_ed4F_LD_R_A (s : State) : Outcome := prefixedLine "LD R,A" 1 s

/-- R3080: `ED 50`, `Plain("IN D,(C)", 1)`. -/
def exec_ed50_IN_D_mC (s : State) : Outcome := prefixedLine "IN D,(C)" 1 s

/-- R3081: `ED 51`, `Plain("OUT (C),D", 1)`. -/
def exec_ed51_OUT_mC_D (s : State) : Outcome := prefixedLine "OUT (C),D" 1 s

/-- R3082: `ED 52`, `Plain("SBC HL,DE", 1)`. -/
def exec_ed52_SBC_HL_DE (s : State) : Outcome := prefixedLine "SBC HL,DE" 1 s

/-- R3083: `ED 53 lo hi`, `Plain("LD (nn),DE", 3)`. -/
def exec_ed53_LD_mnn_DE (s : State) : Outcome := prefixedLine "LD (nn),DE" 3 s

/-- R3084: `ED 54`, `Plain("NEG", 1)`. -/
def exec_ed54_NEG (s : State) : Outcome := prefixedLine "NEG" 1 s

/-- R3085: `ED 55`, `Plain("RETN", 1)`. -/
def exec_ed55_RETN (s : State) : Outcome := prefixedLine "RETN" 1 s

/-- R3086: `ED 56`, `Plain("IM 1", 1)`. -/
def exec_ed56_IM_1 (s : State) : Outcome := prefixedLine "IM 1" 1 s

/-- R3087: `ED 57`, `Plain("LD A,I", 1)`. -/
def exec_ed57_LD_A_I (s : State) : Outcome := prefixedLine "LD A,I" 1 s

/-- R3088: `ED 58`, `Plain("IN E,(C)", 1)`. -/
def exec_ed58_IN_E_mC (s : State) : Outcome := prefixedLine "IN E,(C)" 1 s

/-- R3089: `ED 59`, `Plain("OUT (C),E", 1)`. -/
def exec_ed59_OUT_mC_E (s : State) : Outcome := prefixedLine "OUT (C),E" 1 s

/-- R3090: `ED 5A`, `Plain("ADC HL,DE", 1)`. -/
def exec_ed5A_ADC_HL_DE (s : State) : Outcome := prefixedLine "ADC HL,DE" 1 s

/-- R3091: `ED 5B lo hi`, `Plain("LD DE,(nn)", 3)`. -/
def exec_ed5B_LD_DE_mnn (s : State) : Outcome := prefixedLine "LD DE,(nn)" 3 s

/-- R3092: `ED 5C`, `Plain("NEG", 1)`. -/
def exec_ed5C_NEG (s : State) : Outcome := prefixedLine "NEG" 1 s

/-- R3093: `ED 5D`, `Plain("RETN", 1)`. -/
def exec_ed5D_RETN (s : State) : Outcome := prefixedLine "RETN" 1 s

/-- R3094: `ED 5E`, `Plain("IM 2", 1)`. -/
def exec_ed5E_IM_2 (s : State) : Outcome := prefixedLine "IM 2" 1 s

/-- R3095: `ED 5F`, `Plain("LD A,R", 1)`. -/
def exec_ed5F_LD_A_R (s : State) : Outcome := prefixedLine "LD A,R" 1 s

/-- R3096: `ED 60`, `Plain("IN H,(C)", 1)`. -/
def exec_ed60_IN_H_mC (s : State) : Outcome := prefixedLine "IN H,(C)" 1 s

/-- R3097: `ED 61`, `Plain("OUT (C),H", 1)`. -/
def exec_ed61_OUT_mC_H (s : State) : Outcome := prefixedLine "OUT (C),H" 1 s

/-- R3098: `ED 62`, `Plain("SBC HL,HL", 1)`. -/
def exec_ed62_SBC_HL_HL (s : State) : Outcome := prefixedLine "SBC HL,HL" 1 s

/-- R3099: `ED 63 lo hi`, `Plain("LD (nn),HL", 3)`. -/
def exec_ed63_LD_mnn_HL (s : State) : Outcome := prefixedLine "LD (nn),HL" 3 s

/-- R3100: `ED 64`, `Plain("NEG", 1)`. -/
def exec_ed64_NEG (s : State) : Outcome := prefixedLine "NEG" 1 s

/-- R3101: `ED 65`, `Plain("RETN", 1)`. -/
def exec_ed65_RETN (s : State) : Outcome := prefixedLine "RETN" 1 s

/-- R3102: `ED 66`, `Plain("IM 0", 1)`. -/
def exec_ed66_IM_0 (s : State) : Outcome := prefixedLine "IM 0" 1 s

/-- R3103: `ED 67`, `Plain("RRD", 1)`. -/
def exec_ed67_RRD (s : State) : Outcome := prefixedLine "RRD" 1 s

/-- R3104: `ED 68`, `Plain("IN L,(C)", 1)`. -/
def exec_ed68_IN_L_mC (s : State) : Outcome := prefixedLine "IN L,(C)" 1 s

/-- R3105: `ED 69`, `Plain("OUT (C),L", 1)`. -/
def exec_ed69_OUT_mC_L (s : State) : Outcome := prefixedLine "OUT (C),L" 1 s

/-- R3106: `ED 6A`, `Plain("ADC HL,HL", 1)`. -/
def exec_ed6A_ADC_HL_HL (s : State) : Outcome := prefixedLine "ADC HL,HL" 1 s

/-- R3107: `ED 6B lo hi`, `Plain("LD HL,(nn)", 3)`. -/
def exec_ed6B_LD_HL_mnn (s : State) : Outcome := prefixedLine "LD HL,(nn)" 3 s

/-- R3108: `ED 6C`, `Plain("NEG", 1)`. -/
def exec_ed6C_NEG (s : State) : Outcome := prefixedLine "NEG" 1 s

/-- R3109: `ED 6D`, `Plain("RETN", 1)`. -/
def exec_ed6D_RETN (s : State) : Outcome := prefixedLine "RETN" 1 s

/-- R3110: `ED 6E`, `Plain("IM 0", 1)`. -/
def exec_ed6E_IM_0 (s : State) : Outcome := prefixedLine "IM 0" 1 s

/-- R3111: `ED 6F`, `Plain("RLD", 1)`. -/
def exec_ed6F_RLD (s : State) : Outcome := prefixedLine "RLD" 1 s

/-- R3112: `ED 70`, `Plain("IN (C)", 1)`. -/
def exec_ed70_IN_mC (s : State) : Outcome := prefixedLine "IN (C)" 1 s

/-- R3113: `ED 71`, `Plain("OUT (C),0", 1)`. -/
def exec_ed71_OUT_mC_0 (s : State) : Outcome := prefixedLine "OUT (C),0" 1 s

/-- R3114: `ED 72`, `Plain("SBC HL,SP", 1)`. -/
def exec_ed72_SBC_HL_SP (s : State) : Outcome := prefixedLine "SBC HL,SP" 1 s

/-- R3115: `ED 73 lo hi`, `Plain("LD (nn),SP", 3)`. -/
def exec_ed73_LD_mnn_SP (s : State) : Outcome := prefixedLine "LD (nn),SP" 3 s

/-- R3116: `ED 74`, `Plain("NEG", 1)`. -/
def exec_ed74_NEG (s : State) : Outcome := prefixedLine "NEG" 1 s

/-- R3117: `ED 75`, `Plain("RETN", 1)`. -/
def exec_ed75_RETN (s : State) : Outcome := prefixedLine "RETN" 1 s

/-- R3118: `ED 76`, `Plain("IM 1", 1)`. -/
def exec_ed76_IM_1 (s : State) : Outcome := prefixedLine "IM 1" 1 s

/-- R3119: `ED 77`, `Placeholder(PLACEHOLDER_MNEMONIC, 1)`. -/
def exec_ed77_PLACEHOLDER (s : State) : Outcome := prefixedLine s.placeholder 1 s

/-- R3120: `ED 78`, `Plain("IN A,(C)", 1)`. -/
def exec_ed78_IN_A_mC (s : State) : Outcome := prefixedLine "IN A,(C)" 1 s

/-- R3121: `ED 79`, `Plain("OUT (C),A", 1)`. -/
def exec_ed79_OUT_mC_A (s : State) : Outcome := prefixedLine "OUT (C),A" 1 s

/-- R3122: `ED 7A`, `Plain("ADC HL,SP", 1)`. -/
def exec_ed7A_ADC_HL_SP (s : State) : Outcome := prefixedLine "ADC HL,SP" 1 s

/-- R3123: `ED 7B lo hi`, `Plain("LD SP,(nn)", 3)`. -/
def exec_ed7B_LD_SP_mnn (s : State) : Outcome := prefixedLine "LD SP,(nn)" 3 s

/-- R3124: `ED 7C`, `Plain("NEG", 1)`. -/
def exec_ed7C_NEG (s : State) : Outcome := prefixedLine "NEG" 1 s

/-- R3125: `ED 7D`, `Plain("RETN", 1)`. -/
def exec_ed7D_RETN (s : State) : Outcome := prefixedLine "RETN" 1 s

/-- R3126: `ED 7E`, `Plain("IM 2", 1)`. -/
def exec_ed7E_IM_2 (s : State) : Outcome := prefixedLine "IM 2" 1 s

/-- R3127: `ED 7F`, `Placeholder(PLACEHOLDER_MNEMONIC, 1)`. -/
def exec_ed7F_PLACEHOLDER (s : State) : Outcome := prefixedLine s.placeholder 1 s

/-- R3128: `ED 80`, `Placeholder(PLACEHOLDER_MNEMONIC, 1)`. -/
def exec_ed80_PLACEHOLDER (s : State) : Outcome := prefixedLine s.placeholder 1 s

/-- R3129: `ED 81`, `Placeholder(PLACEHOLDER_MNEMONIC, 1)`. -/
def exec_ed81_PLACEHOLDER (s : State) : Outcome := prefixedLine s.placeholder 1 s

/-- R3130: `ED 82`, `Placeholder(PLACEHOLDER_MNEMONIC, 1)`. -/
def exec_ed82_PLACEHOLDER (s : State) : Outcome := prefixedLine s.placeholder 1 s

/-- R3131: `ED 83`, `Placeholder(PLACEHOLDER_MNEMONIC, 1)`. -/
def exec_ed83_PLACEHOLDER (s : State) : Outcome := prefixedLine s.placeholder 1 s

/-- R3132: `ED 84`, `Placeholder(PLACEHOLDER_MNEMONIC, 1)`. -/
def exec_ed84_PLACEHOLDER (s : State) : Outcome := prefixedLine s.placeholder 1 s

/-- R3133: `ED 85`, `Placeholder(PLACEHOLDER_MNEMONIC, 1)`. -/
def exec_ed85_PLACEHOLDER (s : State) : Outcome := prefixedLine s.placeholder 1 s

/-- R3134: `ED 86`, `Placeholder(PLACEHOLDER_MNEMONIC, 1)`. -/
def exec_ed86_PLACEHOLDER (s : State) : Outcome := prefixedLine s.placeholder 1 s

/-- R3135: `ED 87`, `Placeholder(PLACEHOLDER_MNEMONIC, 1)`. -/
def exec_ed87_PLACEHOLDER (s : State) : Outcome := prefixedLine s.placeholder 1 s

/-- R3136: `ED 88`, `Placeholder(PLACEHOLDER_MNEMONIC, 1)`. -/
def exec_ed88_PLACEHOLDER (s : State) : Outcome := prefixedLine s.placeholder 1 s

/-- R3137: `ED 89`, `Placeholder(PLACEHOLDER_MNEMONIC, 1)`. -/
def exec_ed89_PLACEHOLDER (s : State) : Outcome := prefixedLine s.placeholder 1 s

/-- R3138: `ED 8A`, `Placeholder(PLACEHOLDER_MNEMONIC, 1)`. -/
def exec_ed8A_PLACEHOLDER (s : State) : Outcome := prefixedLine s.placeholder 1 s

/-- R3139: `ED 8B`, `Placeholder(PLACEHOLDER_MNEMONIC, 1)`. -/
def exec_ed8B_PLACEHOLDER (s : State) : Outcome := prefixedLine s.placeholder 1 s

/-- R3140: `ED 8C`, `Placeholder(PLACEHOLDER_MNEMONIC, 1)`. -/
def exec_ed8C_PLACEHOLDER (s : State) : Outcome := prefixedLine s.placeholder 1 s

/-- R3141: `ED 8D`, `Placeholder(PLACEHOLDER_MNEMONIC, 1)`. -/
def exec_ed8D_PLACEHOLDER (s : State) : Outcome := prefixedLine s.placeholder 1 s

/-- R3142: `ED 8E`, `Placeholder(PLACEHOLDER_MNEMONIC, 1)`. -/
def exec_ed8E_PLACEHOLDER (s : State) : Outcome := prefixedLine s.placeholder 1 s

/-- R3143: `ED 8F`, `Placeholder(PLACEHOLDER_MNEMONIC, 1)`. -/
def exec_ed8F_PLACEHOLDER (s : State) : Outcome := prefixedLine s.placeholder 1 s

/-- R3144: `ED 90`, `Placeholder(PLACEHOLDER_MNEMONIC, 1)`. -/
def exec_ed90_PLACEHOLDER (s : State) : Outcome := prefixedLine s.placeholder 1 s

/-- R3145: `ED 91`, `Placeholder(PLACEHOLDER_MNEMONIC, 1)`. -/
def exec_ed91_PLACEHOLDER (s : State) : Outcome := prefixedLine s.placeholder 1 s

/-- R3146: `ED 92`, `Placeholder(PLACEHOLDER_MNEMONIC, 1)`. -/
def exec_ed92_PLACEHOLDER (s : State) : Outcome := prefixedLine s.placeholder 1 s

/-- R3147: `ED 93`, `Placeholder(PLACEHOLDER_MNEMONIC, 1)`. -/
def exec_ed93_PLACEHOLDER (s : State) : Outcome := prefixedLine s.placeholder 1 s

/-- R3148: `ED 94`, `Placeholder(PLACEHOLDER_MNEMONIC, 1)`. -/
def exec_ed94_PLACEHOLDER (s : State) : Outcome := prefixedLine s.placeholder 1 s

/-- R3149: `ED 95`, `Placeholder(PLACEHOLDER_MNEMONIC, 1)`. -/
def exec_ed95_PLACEHOLDER (s : State) : Outcome := prefixedLine s.placeholder 1 s

/-- R3150: `ED 96`, `Placeholder(PLACEHOLDER_MNEMONIC, 1)`. -/
def exec_ed96_PLACEHOLDER (s : State) : Outcome := prefixedLine s.placeholder 1 s

/-- R3151: `ED 97`, `Placeholder(PLACEHOLDER_MNEMONIC, 1)`. -/
def exec_ed97_PLACEHOLDER (s : State) : Outcome := prefixedLine s.placeholder 1 s

/-- R3152: `ED 98`, `Placeholder(PLACEHOLDER_MNEMONIC, 1)`. -/
def exec_ed98_PLACEHOLDER (s : State) : Outcome := prefixedLine s.placeholder 1 s

/-- R3153: `ED 99`, `Placeholder(PLACEHOLDER_MNEMONIC, 1)`. -/
def exec_ed99_PLACEHOLDER (s : State) : Outcome := prefixedLine s.placeholder 1 s

/-- R3154: `ED 9A`, `Placeholder(PLACEHOLDER_MNEMONIC, 1)`. -/
def exec_ed9A_PLACEHOLDER (s : State) : Outcome := prefixedLine s.placeholder 1 s

/-- R3155: `ED 9B`, `Placeholder(PLACEHOLDER_MNEMONIC, 1)`. -/
def exec_ed9B_PLACEHOLDER (s : State) : Outcome := prefixedLine s.placeholder 1 s

/-- R3156: `ED 9C`, `Placeholder(PLACEHOLDER_MNEMONIC, 1)`. -/
def exec_ed9C_PLACEHOLDER (s : State) : Outcome := prefixedLine s.placeholder 1 s

/-- R3157: `ED 9D`, `Placeholder(PLACEHOLDER_MNEMONIC, 1)`. -/
def exec_ed9D_PLACEHOLDER (s : State) : Outcome := prefixedLine s.placeholder 1 s

/-- R3158: `ED 9E`, `Placeholder(PLACEHOLDER_MNEMONIC, 1)`. -/
def exec_ed9E_PLACEHOLDER (s : State) : Outcome := prefixedLine s.placeholder 1 s

/-- R3159: `ED 9F`, `Placeholder(PLACEHOLDER_MNEMONIC, 1)`. -/
def exec_ed9F_PLACEHOLDER (s : State) : Outcome := prefixedLine s.placeholder 1 s

/-- R3160: `ED A0`, `Plain("LDI", 1)`. -/
def exec_edA0_LDI (s : State) : Outcome := prefixedLine "LDI" 1 s

/-- R3161: `ED A1`, `Plain("CPI", 1)`. -/
def exec_edA1_CPI (s : State) : Outcome := prefixedLine "CPI" 1 s

/-- R3162: `ED A2`, `Plain("INI", 1)`. -/
def exec_edA2_INI (s : State) : Outcome := prefixedLine "INI" 1 s

/-- R3163: `ED A3`, `Plain("OUTI", 1)`. -/
def exec_edA3_OUTI (s : State) : Outcome := prefixedLine "OUTI" 1 s

/-- R3164: `ED A4`, `Placeholder(PLACEHOLDER_MNEMONIC, 1)`. -/
def exec_edA4_PLACEHOLDER (s : State) : Outcome := prefixedLine s.placeholder 1 s

/-- R3165: `ED A5`, `Placeholder(PLACEHOLDER_MNEMONIC, 1)`. -/
def exec_edA5_PLACEHOLDER (s : State) : Outcome := prefixedLine s.placeholder 1 s

/-- R3166: `ED A6`, `Placeholder(PLACEHOLDER_MNEMONIC, 1)`. -/
def exec_edA6_PLACEHOLDER (s : State) : Outcome := prefixedLine s.placeholder 1 s

/-- R3167: `ED A7`, `Placeholder(PLACEHOLDER_MNEMONIC, 1)`. -/
def exec_edA7_PLACEHOLDER (s : State) : Outcome := prefixedLine s.placeholder 1 s

/-- R3168: `ED A8`, `Plain("LDD", 1)`. -/
def exec_edA8_LDD (s : State) : Outcome := prefixedLine "LDD" 1 s

/-- R3169: `ED A9`, `Plain("CPD", 1)`. -/
def exec_edA9_CPD (s : State) : Outcome := prefixedLine "CPD" 1 s

/-- R3170: `ED AA`, `Plain("IND", 1)`. -/
def exec_edAA_IND (s : State) : Outcome := prefixedLine "IND" 1 s

/-- R3171: `ED AB`, `Plain("OUTD", 1)`. -/
def exec_edAB_OUTD (s : State) : Outcome := prefixedLine "OUTD" 1 s

/-- R3172: `ED AC`, `Placeholder(PLACEHOLDER_MNEMONIC, 1)`. -/
def exec_edAC_PLACEHOLDER (s : State) : Outcome := prefixedLine s.placeholder 1 s

/-- R3173: `ED AD`, `Placeholder(PLACEHOLDER_MNEMONIC, 1)`. -/
def exec_edAD_PLACEHOLDER (s : State) : Outcome := prefixedLine s.placeholder 1 s

/-- R3174: `ED AE`, `Placeholder(PLACEHOLDER_MNEMONIC, 1)`. -/
def exec_edAE_PLACEHOLDER (s : State) : Outcome := prefixedLine s.placeholder 1 s

/-- R3175: `ED AF`, `Placeholder(PLACEHOLDER_MNEMONIC, 1)`. -/
def exec_edAF_PLACEHOLDER (s : State) : Outcome := prefixedLine s.placeholder 1 s

/-- R3176: `ED B0`, `Plain("LDIR", 1)`. -/
def exec_edB0_LDIR (s : State) : Outcome := prefixedLine "LDIR" 1 s

/-- R3177: `ED B1`, `Plain("CPIR", 1)`. -/
def exec_edB1_CPIR (s : State) : Outcome := prefixedLine "CPIR" 1 s

/-- R3178: `ED B2`, `Plain("INIR", 1)`. -/
def exec_edB2_INIR (s : State) : Outcome := prefixedLine "INIR" 1 s

/-- R3179: `ED B3`, `Plain("OTIR", 1)`. -/
def exec_edB3_OTIR (s : State) : Outcome := prefixedLine "OTIR" 1 s

/-- R3180: `ED B4`, `Placeholder(PLACEHOLDER_MNEMONIC, 1)`. -/
def exec_edB4_PLACEHOLDER (s : State) : Outcome := prefixedLine s.placeholder 1 s

/-- R3181: `ED B5`, `Placeholder(PLACEHOLDER_MNEMONIC, 1)`. -/
def exec_edB5_PLACEHOLDER (s : State) : Outcome := prefixedLine s.placeholder 1 s

/-- R3182: `ED B6`, `Placeholder(PLACEHOLDER_MNEMONIC, 1)`. -/
def exec_edB6_PLACEHOLDER (s : State) : Outcome := prefixedLine s.placeholder 1 s

/-- R3183: `ED B7`, `Placeholder(PLACEHOLDER_MNEMONIC, 1)`. -/
def exec_edB7_PLACEHOLDER (s : State) : Outcome := prefixedLine s.placeholder 1 s

/-- R3184: `ED B8`, `Plain("LDDR", 1)`. -/
def exec_edB8_LDDR (s : State) : Outcome := prefixedLine "LDDR" 1 s

/-- R3185: `ED B9`, `Plain("CPDR", 1)`. -/
def exec_edB9_CPDR (s : State) : Outcome := prefixedLine "CPDR" 1 s

/-- R3186: `ED BA`, `Plain("INDR", 1)`. -/
def exec_edBA_INDR (s : State) : Outcome := prefixedLine "INDR" 1 s

/-- R3187: `ED BB`, `Plain("OTDR", 1)`. -/
def exec_edBB_OTDR (s : State) : Outcome := prefixedLine "OTDR" 1 s

/-- R3188: `ED BC`, `Placeholder(PLACEHOLDER_MNEMONIC, 1)`. -/
def exec_edBC_PLACEHOLDER (s : State) : Outcome := prefixedLine s.placeholder 1 s

/-- R3189: `ED BD`, `Placeholder(PLACEHOLDER_MNEMONIC, 1)`. -/
def exec_edBD_PLACEHOLDER (s : State) : Outcome := prefixedLine s.placeholder 1 s

/-- R3190: `ED BE`, `Placeholder(PLACEHOLDER_MNEMONIC, 1)`. -/
def exec_edBE_PLACEHOLDER (s : State) : Outcome := prefixedLine s.placeholder 1 s

/-- R3191: `ED BF`, `Placeholder(PLACEHOLDER_MNEMONIC, 1)`. -/
def exec_edBF_PLACEHOLDER (s : State) : Outcome := prefixedLine s.placeholder 1 s

/-- R3192: `ED C0`, `Placeholder(PLACEHOLDER_MNEMONIC, 1)`. -/
def exec_edC0_PLACEHOLDER (s : State) : Outcome := prefixedLine s.placeholder 1 s

/-- R3193: `ED C1`, `Placeholder(PLACEHOLDER_MNEMONIC, 1)`. -/
def exec_edC1_PLACEHOLDER (s : State) : Outcome := prefixedLine s.placeholder 1 s

/-- R3194: `ED C2`, `Placeholder(PLACEHOLDER_MNEMONIC, 1)`. -/
def exec_edC2_PLACEHOLDER (s : State) : Outcome := prefixedLine s.placeholder 1 s

/-- R3195: `ED C3`, `Placeholder(PLACEHOLDER_MNEMONIC, 1)`. -/
def exec_edC3_PLACEHOLDER (s : State) : Outcome := prefixedLine s.placeholder 1 s

/-- R3196: `ED C4`, `Placeholder(PLACEHOLDER_MNEMONIC, 1)`. -/
def exec_edC4_PLACEHOLDER (s : State) : Outcome := prefixedLine s.placeholder 1 s

/-- R3197: `ED C5`, `Placeholder(PLACEHOLDER_MNEMONIC, 1)`. -/
def exec_edC5_PLACEHOLDER (s : State) : Outcome := prefixedLine s.placeholder 1 s

/-- R3198: `ED C6`, `Placeholder(PLACEHOLDER_MNEMONIC, 1)`. -/
def exec_edC6_PLACEHOLDER (s : State) : Outcome := prefixedLine s.placeholder 1 s

/-- R3199: `ED C7`, `Placeholder(PLACEHOLDER_MNEMONIC, 1)`. -/
def exec_edC7_PLACEHOLDER (s : State) : Outcome := prefixedLine s.placeholder 1 s

/-- R3200: `ED C8`, `Placeholder(PLACEHOLDER_MNEMONIC, 1)`. -/
def exec_edC8_PLACEHOLDER (s : State) : Outcome := prefixedLine s.placeholder 1 s

/-- R3201: `ED C9`, `Placeholder(PLACEHOLDER_MNEMONIC, 1)`. -/
def exec_edC9_PLACEHOLDER (s : State) : Outcome := prefixedLine s.placeholder 1 s

/-- R3202: `ED CA`, `Placeholder(PLACEHOLDER_MNEMONIC, 1)`. -/
def exec_edCA_PLACEHOLDER (s : State) : Outcome := prefixedLine s.placeholder 1 s

/-- R3203: `ED CB`, `Placeholder(PLACEHOLDER_MNEMONIC, 1)`. -/
def exec_edCB_PLACEHOLDER (s : State) : Outcome := prefixedLine s.placeholder 1 s

/-- R3204: `ED CC`, `Placeholder(PLACEHOLDER_MNEMONIC, 1)`. -/
def exec_edCC_PLACEHOLDER (s : State) : Outcome := prefixedLine s.placeholder 1 s

/-- R3205: `ED CD`, `Placeholder(PLACEHOLDER_MNEMONIC, 1)`. -/
def exec_edCD_PLACEHOLDER (s : State) : Outcome := prefixedLine s.placeholder 1 s

/-- R3206: `ED CE`, `Placeholder(PLACEHOLDER_MNEMONIC, 1)`. -/
def exec_edCE_PLACEHOLDER (s : State) : Outcome := prefixedLine s.placeholder 1 s

/-- R3207: `ED CF`, `Placeholder(PLACEHOLDER_MNEMONIC, 1)`. -/
def exec_edCF_PLACEHOLDER (s : State) : Outcome := prefixedLine s.placeholder 1 s

/-- R3208: `ED D0`, `Placeholder(PLACEHOLDER_MNEMONIC, 1)`. -/
def exec_edD0_PLACEHOLDER (s : State) : Outcome := prefixedLine s.placeholder 1 s

/-- R3209: `ED D1`, `Placeholder(PLACEHOLDER_MNEMONIC, 1)`. -/
def exec_edD1_PLACEHOLDER (s : State) : Outcome := prefixedLine s.placeholder 1 s

/-- R3210: `ED D2`, `Placeholder(PLACEHOLDER_MNEMONIC, 1)`. -/
def exec_edD2_PLACEHOLDER (s : State) : Outcome := prefixedLine s.placeholder 1 s

/-- R3211: `ED D3`, `Placeholder(PLACEHOLDER_MNEMONIC, 1)`. -/
def exec_edD3_PLACEHOLDER (s : State) : Outcome := prefixedLine s.placeholder 1 s

/-- R3212: `ED D4`, `Placeholder(PLACEHOLDER_MNEMONIC, 1)`. -/
def exec_edD4_PLACEHOLDER (s : State) : Outcome := prefixedLine s.placeholder 1 s

/-- R3213: `ED D5`, `Placeholder(PLACEHOLDER_MNEMONIC, 1)`. -/
def exec_edD5_PLACEHOLDER (s : State) : Outcome := prefixedLine s.placeholder 1 s

/-- R3214: `ED D6`, `Placeholder(PLACEHOLDER_MNEMONIC, 1)`. -/
def exec_edD6_PLACEHOLDER (s : State) : Outcome := prefixedLine s.placeholder 1 s

/-- R3215: `ED D7`, `Placeholder(PLACEHOLDER_MNEMONIC, 1)`. -/
def exec_edD7_PLACEHOLDER (s : State) : Outcome := prefixedLine s.placeholder 1 s

/-- R3216: `ED D8`, `Placeholder(PLACEHOLDER_MNEMONIC, 1)`. -/
def exec_edD8_PLACEHOLDER (s : State) : Outcome := prefixedLine s.placeholder 1 s

/-- R3217: `ED D9`, `Placeholder(PLACEHOLDER_MNEMONIC, 1)`. -/
def exec_edD9_PLACEHOLDER (s : State) : Outcome := prefixedLine s.placeholder 1 s

/-- R3218: `ED DA`, `Placeholder(PLACEHOLDER_MNEMONIC, 1)`. -/
def exec_edDA_PLACEHOLDER (s : State) : Outcome := prefixedLine s.placeholder 1 s

/-- R3219: `ED DB`, `Placeholder(PLACEHOLDER_MNEMONIC, 1)`. -/
def exec_edDB_PLACEHOLDER (s : State) : Outcome := prefixedLine s.placeholder 1 s

/-- R3220: `ED DC`, `Placeholder(PLACEHOLDER_MNEMONIC, 1)`. -/
def exec_edDC_PLACEHOLDER (s : State) : Outcome := prefixedLine s.placeholder 1 s

/-- R3221: `ED DD`, `Placeholder(PLACEHOLDER_MNEMONIC, 1)`. -/
def exec_edDD_PLACEHOLDER (s : State) : Outcome := prefixedLine s.placeholder 1 s

/-- R3222: `ED DE`, `Placeholder(PLACEHOLDER_MNEMONIC, 1)`. -/
def exec_edDE_PLACEHOLDER (s : State) : Outcome := prefixedLine s.placeholder 1 s

/-- R3223: `ED DF`, `Placeholder(PLACEHOLDER_MNEMONIC, 1)`. -/
def exec_edDF_PLACEHOLDER (s : State) : Outcome := prefixedLine s.placeholder 1 s

/-- R3224: `ED E0`, `Placeholder(PLACEHOLDER_MNEMONIC, 1)`. -/
def exec_edE0_PLACEHOLDER (s : State) : Outcome := prefixedLine s.placeholder 1 s

/-- R3225: `ED E1`, `Placeholder(PLACEHOLDER_MNEMONIC, 1)`. -/
def exec_edE1_PLACEHOLDER (s : State) : Outcome := prefixedLine s.placeholder 1 s

/-- R3226: `ED E2`, `Placeholder(PLACEHOLDER_MNEMONIC, 1)`. -/
def exec_edE2_PLACEHOLDER (s : State) : Outcome := prefixedLine s.placeholder 1 s

/-- R3227: `ED E3`, `Placeholder(PLACEHOLDER_MNEMONIC, 1)`. -/
def exec_edE3_PLACEHOLDER (s : State) : Outcome := prefixedLine s.placeholder 1 s

/-- R3228: `ED E4`, `Placeholder(PLACEHOLDER_MNEMONIC, 1)`. -/
def exec_edE4_PLACEHOLDER (s : State) : Outcome := prefixedLine s.placeholder 1 s

/-- R3229: `ED E5`, `Placeholder(PLACEHOLDER_MNEMONIC, 1)`. -/
def exec_edE5_PLACEHOLDER (s : State) : Outcome := prefixedLine s.placeholder 1 s

/-- R3230: `ED E6`, `Placeholder(PLACEHOLDER_MNEMONIC, 1)`. -/
def exec_edE6_PLACEHOLDER (s : State) : Outcome := prefixedLine s.placeholder 1 s

/-- R3231: `ED E7`, `Placeholder(PLACEHOLDER_MNEMONIC, 1)`. -/
def exec_edE7_PLACEHOLDER (s : State) : Outcome := prefixedLine s.placeholder 1 s

/-- R3232: `ED E8`, `Placeholder(PLACEHOLDER_MNEMONIC, 1)`. -/
def exec_edE8_PLACEHOLDER (s : State) : Outcome := prefixedLine s.placeholder 1 s

/-- R3233: `ED E9`, `Placeholder(PLACEHOLDER_MNEMONIC, 1)`. -/
def exec_edE9_PLACEHOLDER (s : State) : Outcome := prefixedLine s.placeholder 1 s

/-- R3234: `ED EA`, `Placeholder(PLACEHOLDER_MNEMONIC, 1)`. -/
def exec_edEA_PLACEHOLDER (s : State) : Outcome := prefixedLine s.placeholder 1 s

/-- R3235: `ED EB`, `Placeholder(PLACEHOLDER_MNEMONIC, 1)`. -/
def exec_edEB_PLACEHOLDER (s : State) : Outcome := prefixedLine s.placeholder 1 s

/-- R3236: `ED EC`, `Placeholder(PLACEHOLDER_MNEMONIC, 1)`. -/
def exec_edEC_PLACEHOLDER (s : State) : Outcome := prefixedLine s.placeholder 1 s

/-- R3237: `ED ED`, `Placeholder(PLACEHOLDER_MNEMONIC, 1)`. -/
def exec_edED_PLACEHOLDER (s : State) : Outcome := prefixedLine s.placeholder 1 s

/-- R3238: `ED EE`, `Placeholder(PLACEHOLDER_MNEMONIC, 1)`. -/
def exec_edEE_PLACEHOLDER (s : State) : Outcome := prefixedLine s.placeholder 1 s

/-- R3239: `ED EF`, `Placeholder(PLACEHOLDER_MNEMONIC, 1)`. -/
def exec_edEF_PLACEHOLDER (s : State) : Outcome := prefixedLine s.placeholder 1 s

/-- R3240: `ED F0`, `Placeholder(PLACEHOLDER_MNEMONIC, 1)`. -/
def exec_edF0_PLACEHOLDER (s : State) : Outcome := prefixedLine s.placeholder 1 s

/-- R3241: `ED F1`, `Placeholder(PLACEHOLDER_MNEMONIC, 1)`. -/
def exec_edF1_PLACEHOLDER (s : State) : Outcome := prefixedLine s.placeholder 1 s

/-- R3242: `ED F2`, `Placeholder(PLACEHOLDER_MNEMONIC, 1)`. -/
def exec_edF2_PLACEHOLDER (s : State) : Outcome := prefixedLine s.placeholder 1 s

/-- R3243: `ED F3`, `Placeholder(PLACEHOLDER_MNEMONIC, 1)`. -/
def exec_edF3_PLACEHOLDER (s : State) : Outcome := prefixedLine s.placeholder 1 s

/-- R3244: `ED F4`, `Placeholder(PLACEHOLDER_MNEMONIC, 1)`. -/
def exec_edF4_PLACEHOLDER (s : State) : Outcome := prefixedLine s.placeholder 1 s

/-- R3245: `ED F5`, `Placeholder(PLACEHOLDER_MNEMONIC, 1)`. -/
def exec_edF5_PLACEHOLDER (s : State) : Outcome := prefixedLine s.placeholder 1 s

/-- R3246: `ED F6`, `Placeholder(PLACEHOLDER_MNEMONIC, 1)`. -/
def exec_edF6_PLACEHOLDER (s : State) : Outcome := prefixedLine s.placeholder 1 s

/-- R3247: `ED F7`, `Placeholder(PLACEHOLDER_MNEMONIC, 1)`. -/
def exec_edF7_PLACEHOLDER (s : State) : Outcome := prefixedLine s.placeholder 1 s

/-- R3248: `ED F8`, `Placeholder(PLACEHOLDER_MNEMONIC, 1)`. -/
def exec_edF8_PLACEHOLDER (s : State) : Outcome := prefixedLine s.placeholder 1 s

/-- R3249: `ED F9`, `Placeholder(PLACEHOLDER_MNEMONIC, 1)`. -/
def exec_edF9_PLACEHOLDER (s : State) : Outcome := prefixedLine s.placeholder 1 s

/-- R3250: `ED FA`, `Placeholder(PLACEHOLDER_MNEMONIC, 1)`. -/
def exec_edFA_PLACEHOLDER (s : State) : Outcome := prefixedLine s.placeholder 1 s

/-- R3251: `ED FB`, `Placeholder(PLACEHOLDER_MNEMONIC, 1)`. -/
def exec_edFB_PLACEHOLDER (s : State) : Outcome := prefixedLine s.placeholder 1 s

/-- R3252: `ED FC`, `Placeholder(PLACEHOLDER_MNEMONIC, 1)`. -/
def exec_edFC_PLACEHOLDER (s : State) : Outcome := prefixedLine s.placeholder 1 s

/-- R3253: `ED FD`, `Placeholder(PLACEHOLDER_MNEMONIC, 1)`. -/
def exec_edFD_PLACEHOLDER (s : State) : Outcome := prefixedLine s.placeholder 1 s

/-- R3254: `ED FE`, `Placeholder(PLACEHOLDER_MNEMONIC, 1)`. -/
def exec_edFE_PLACEHOLDER (s : State) : Outcome := prefixedLine s.placeholder 1 s

/-- R3255: `ED FF`, `Placeholder(PLACEHOLDER_MNEMONIC, 1)`. -/
def exec_edFF_PLACEHOLDER (s : State) : Outcome := prefixedLine s.placeholder 1 s

end Sys2Proof.Machine
end

