-- ==== Sys2Proof/Machine/Fd.lean ====
section
/-! DEFINITION. The meanings of the FD table (index register IY): rules R5000 to R5255 of 45_fd_00-7F.md and 45_fd_80-FF.md, in index order. Each docstring gives the rule, the bytes in stream order and the descriptor. -/

namespace Sys2Proof.Machine

/-- R5000: `FD 00`, `Plain("NOP", 1)`. -/
def exec_fd00_NOP (s : State) : Outcome := prefixedLine "NOP" 1 s

/-- R5001: `FD 01 lo hi`, `Plain("LD BC,nn", 3)`. -/
def exec_fd01_LD_BC_nn (s : State) : Outcome := prefixedLine "LD BC,nn" 3 s

/-- R5002: `FD 02`, `Plain("LD (BC),A", 1)`. -/
def exec_fd02_LD_mBC_A (s : State) : Outcome := prefixedLine "LD (BC),A" 1 s

/-- R5003: `FD 03`, `Plain("INC BC", 1)`. -/
def exec_fd03_INC_BC (s : State) : Outcome := prefixedLine "INC BC" 1 s

/-- R5004: `FD 04`, `Plain("INC B", 1)`. -/
def exec_fd04_INC_B (s : State) : Outcome := prefixedLine "INC B" 1 s

/-- R5005: `FD 05`, `Plain("DEC B", 1)`. -/
def exec_fd05_DEC_B (s : State) : Outcome := prefixedLine "DEC B" 1 s

/-- R5006: `FD 06 n`, `Plain("LD B,n", 2)`. -/
def exec_fd06_LD_B_n (s : State) : Outcome := prefixedLine "LD B,n" 2 s

/-- R5007: `FD 07`, `Plain("RLCA", 1)`. -/
def exec_fd07_RLCA (s : State) : Outcome := prefixedLine "RLCA" 1 s

/-- R5008: `FD 08`, `Plain("EX AF,AF'", 1)`. -/
def exec_fd08_EX_AF_AFx (s : State) : Outcome := prefixedLine "EX AF,AF'" 1 s

/-- R5009: `FD 09`, `Plain("ADD IY,BC", 1)`. -/
def exec_fd09_ADD_IY_BC (s : State) : Outcome := prefixedLine "ADD IY,BC" 1 s

/-- R5010: `FD 0A`, `Plain("LD A,(BC)", 1)`. -/
def exec_fd0A_LD_A_mBC (s : State) : Outcome := prefixedLine "LD A,(BC)" 1 s

/-- R5011: `FD 0B`, `Plain("DEC BC", 1)`. -/
def exec_fd0B_DEC_BC (s : State) : Outcome := prefixedLine "DEC BC" 1 s

/-- R5012: `FD 0C`, `Plain("INC C", 1)`. -/
def exec_fd0C_INC_C (s : State) : Outcome := prefixedLine "INC C" 1 s

/-- R5013: `FD 0D`, `Plain("DEC C", 1)`. -/
def exec_fd0D_DEC_C (s : State) : Outcome := prefixedLine "DEC C" 1 s

/-- R5014: `FD 0E n`, `Plain("LD C,n", 2)`. -/
def exec_fd0E_LD_C_n (s : State) : Outcome := prefixedLine "LD C,n" 2 s

/-- R5015: `FD 0F`, `Plain("RRCA", 1)`. -/
def exec_fd0F_RRCA (s : State) : Outcome := prefixedLine "RRCA" 1 s

/-- R5016: `FD 10 n`, `Plain("DJNZ e", 2)`. -/
def exec_fd10_DJNZ_e (s : State) : Outcome := prefixedLine "DJNZ e" 2 s

/-- R5017: `FD 11 lo hi`, `Plain("LD DE,nn", 3)`. -/
def exec_fd11_LD_DE_nn (s : State) : Outcome := prefixedLine "LD DE,nn" 3 s

/-- R5018: `FD 12`, `Plain("LD (DE),A", 1)`. -/
def exec_fd12_LD_mDE_A (s : State) : Outcome := prefixedLine "LD (DE),A" 1 s

/-- R5019: `FD 13`, `Plain("INC DE", 1)`. -/
def exec_fd13_INC_DE (s : State) : Outcome := prefixedLine "INC DE" 1 s

/-- R5020: `FD 14`, `Plain("INC D", 1)`. -/
def exec_fd14_INC_D (s : State) : Outcome := prefixedLine "INC D" 1 s

/-- R5021: `FD 15`, `Plain("DEC D", 1)`. -/
def exec_fd15_DEC_D (s : State) : Outcome := prefixedLine "DEC D" 1 s

/-- R5022: `FD 16 n`, `Plain("LD D,n", 2)`. -/
def exec_fd16_LD_D_n (s : State) : Outcome := prefixedLine "LD D,n" 2 s

/-- R5023: `FD 17`, `Plain("RLA", 1)`. -/
def exec_fd17_RLA (s : State) : Outcome := prefixedLine "RLA" 1 s

/-- R5024: `FD 18 n`, `Plain("JR e", 2)`. -/
def exec_fd18_JR_e (s : State) : Outcome := prefixedLine "JR e" 2 s

/-- R5025: `FD 19`, `Plain("ADD IY,DE", 1)`. -/
def exec_fd19_ADD_IY_DE (s : State) : Outcome := prefixedLine "ADD IY,DE" 1 s

/-- R5026: `FD 1A`, `Plain("LD A,(DE)", 1)`. -/
def exec_fd1A_LD_A_mDE (s : State) : Outcome := prefixedLine "LD A,(DE)" 1 s

/-- R5027: `FD 1B`, `Plain("DEC DE", 1)`. -/
def exec_fd1B_DEC_DE (s : State) : Outcome := prefixedLine "DEC DE" 1 s

/-- R5028: `FD 1C`, `Plain("INC E", 1)`. -/
def exec_fd1C_INC_E (s : State) : Outcome := prefixedLine "INC E" 1 s

/-- R5029: `FD 1D`, `Plain("DEC E", 1)`. -/
def exec_fd1D_DEC_E (s : State) : Outcome := prefixedLine "DEC E" 1 s

/-- R5030: `FD 1E n`, `Plain("LD E,n", 2)`. -/
def exec_fd1E_LD_E_n (s : State) : Outcome := prefixedLine "LD E,n" 2 s

/-- R5031: `FD 1F`, `Plain("RRA", 1)`. -/
def exec_fd1F_RRA (s : State) : Outcome := prefixedLine "RRA" 1 s

/-- R5032: `FD 20 n`, `Plain("JR NZ,e", 2)`. -/
def exec_fd20_JR_NZ_e (s : State) : Outcome := prefixedLine "JR NZ,e" 2 s

/-- R5033: `FD 21 lo hi`, `Plain("LD IY,nn", 3)`. -/
def exec_fd21_LD_IY_nn (s : State) : Outcome := prefixedLine "LD IY,nn" 3 s

/-- R5034: `FD 22 lo hi`, `Plain("LD (nn),IY", 3)`. -/
def exec_fd22_LD_mnn_IY (s : State) : Outcome := prefixedLine "LD (nn),IY" 3 s

/-- R5035: `FD 23`, `Plain("INC IY", 1)`. -/
def exec_fd23_INC_IY (s : State) : Outcome := prefixedLine "INC IY" 1 s

/-- R5036: `FD 24`, `Plain("INC IYH", 1)`. -/
def exec_fd24_INC_IYH (s : State) : Outcome := prefixedLine "INC IYH" 1 s

/-- R5037: `FD 25`, `Plain("DEC IYH", 1)`. -/
def exec_fd25_DEC_IYH (s : State) : Outcome := prefixedLine "DEC IYH" 1 s

/-- R5038: `FD 26 n`, `Plain("LD IYH,n", 2)`. -/
def exec_fd26_LD_IYH_n (s : State) : Outcome := prefixedLine "LD IYH,n" 2 s

/-- R5039: `FD 27`, `Plain("DAA", 1)`. -/
def exec_fd27_DAA (s : State) : Outcome := prefixedLine "DAA" 1 s

/-- R5040: `FD 28 n`, `Plain("JR Z,e", 2)`. -/
def exec_fd28_JR_Z_e (s : State) : Outcome := prefixedLine "JR Z,e" 2 s

/-- R5041: `FD 29`, `Plain("ADD IY,IY", 1)`. -/
def exec_fd29_ADD_IY_IY (s : State) : Outcome := prefixedLine "ADD IY,IY" 1 s

/-- R5042: `FD 2A lo hi`, `Plain("LD IY,(nn)", 3)`. -/
def exec_fd2A_LD_IY_mnn (s : State) : Outcome := prefixedLine "LD IY,(nn)" 3 s

/-- R5043: `FD 2B`, `Plain("DEC IY", 1)`. -/
def exec_fd2B_DEC_IY (s : State) : Outcome := prefixedLine "DEC IY" 1 s

/-- R5044: `FD 2C`, `Plain("INC IYL", 1)`. -/
def exec_fd2C_INC_IYL (s : State) : Outcome := prefixedLine "INC IYL" 1 s

/-- R5045: `FD 2D`, `Plain("DEC IYL", 1)`. -/
def exec_fd2D_DEC_IYL (s : State) : Outcome := prefixedLine "DEC IYL" 1 s

/-- R5046: `FD 2E n`, `Plain("LD IYL,n", 2)`. -/
def exec_fd2E_LD_IYL_n (s : State) : Outcome := prefixedLine "LD IYL,n" 2 s

/-- R5047: `FD 2F`, `Plain("CPL", 1)`. -/
def exec_fd2F_CPL (s : State) : Outcome := prefixedLine "CPL" 1 s

/-- R5048: `FD 30 n`, `Plain("JR NC,e", 2)`. -/
def exec_fd30_JR_NC_e (s : State) : Outcome := prefixedLine "JR NC,e" 2 s

/-- R5049: `FD 31 lo hi`, `Plain("LD SP,nn", 3)`. -/
def exec_fd31_LD_SP_nn (s : State) : Outcome := prefixedLine "LD SP,nn" 3 s

/-- R5050: `FD 32 lo hi`, `Plain("LD (nn),A", 3)`. -/
def exec_fd32_LD_mnn_A (s : State) : Outcome := prefixedLine "LD (nn),A" 3 s

/-- R5051: `FD 33`, `Plain("INC SP", 1)`. -/
def exec_fd33_INC_SP (s : State) : Outcome := prefixedLine "INC SP" 1 s

/-- R5052: `FD 34 d`, `Plain("INC (IY+d)", 2)`. -/
def exec_fd34_INC_mIYd (s : State) : Outcome := prefixedLine "INC (IY+d)" 2 s

/-- R5053: `FD 35 d`, `Plain("DEC (IY+d)", 2)`. -/
def exec_fd35_DEC_mIYd (s : State) : Outcome := prefixedLine "DEC (IY+d)" 2 s

/-- R5054: `FD 36 d n`, `Plain("LD (IY+d),n", 3)`. -/
def exec_fd36_LD_mIYd_n (s : State) : Outcome := prefixedLine "LD (IY+d),n" 3 s

/-- R5055: `FD 37`, `Plain("SCF", 1)`. -/
def exec_fd37_SCF (s : State) : Outcome := prefixedLine "SCF" 1 s

/-- R5056: `FD 38 n`, `Plain("JR C,e", 2)`. -/
def exec_fd38_JR_C_e (s : State) : Outcome := prefixedLine "JR C,e" 2 s

/-- R5057: `FD 39`, `Plain("ADD IY,SP", 1)`. -/
def exec_fd39_ADD_IY_SP (s : State) : Outcome := prefixedLine "ADD IY,SP" 1 s

/-- R5058: `FD 3A lo hi`, `Plain("LD A,(nn)", 3)`. -/
def exec_fd3A_LD_A_mnn (s : State) : Outcome := prefixedLine "LD A,(nn)" 3 s

/-- R5059: `FD 3B`, `Plain("DEC SP", 1)`. -/
def exec_fd3B_DEC_SP (s : State) : Outcome := prefixedLine "DEC SP" 1 s

/-- R5060: `FD 3C`, `Plain("INC A", 1)`. -/
def exec_fd3C_INC_A (s : State) : Outcome := prefixedLine "INC A" 1 s

/-- R5061: `FD 3D`, `Plain("DEC A", 1)`. -/
def exec_fd3D_DEC_A (s : State) : Outcome := prefixedLine "DEC A" 1 s

/-- R5062: `FD 3E n`, `Plain("LD A,n", 2)`. -/
def exec_fd3E_LD_A_n (s : State) : Outcome := prefixedLine "LD A,n" 2 s

/-- R5063: `FD 3F`, `Plain("CCF", 1)`. -/
def exec_fd3F_CCF (s : State) : Outcome := prefixedLine "CCF" 1 s

/-- R5064: `FD 40`, `Plain("LD B,B", 1)`. -/
def exec_fd40_LD_B_B (s : State) : Outcome := prefixedLine "LD B,B" 1 s

/-- R5065: `FD 41`, `Plain("LD B,C", 1)`. -/
def exec_fd41_LD_B_C (s : State) : Outcome := prefixedLine "LD B,C" 1 s

/-- R5066: `FD 42`, `Plain("LD B,D", 1)`. -/
def exec_fd42_LD_B_D (s : State) : Outcome := prefixedLine "LD B,D" 1 s

/-- R5067: `FD 43`, `Plain("LD B,E", 1)`. -/
def exec_fd43_LD_B_E (s : State) : Outcome := prefixedLine "LD B,E" 1 s

/-- R5068: `FD 44`, `Plain("LD B,IYH", 1)`. -/
def exec_fd44_LD_B_IYH (s : State) : Outcome := prefixedLine "LD B,IYH" 1 s

/-- R5069: `FD 45`, `Plain("LD B,IYL", 1)`. -/
def exec_fd45_LD_B_IYL (s : State) : Outcome := prefixedLine "LD B,IYL" 1 s

/-- R5070: `FD 46 d`, `Plain("LD B,(IY+d)", 2)`. -/
def exec_fd46_LD_B_mIYd (s : State) : Outcome := prefixedLine "LD B,(IY+d)" 2 s

/-- R5071: `FD 47`, `Plain("LD B,A", 1)`. -/
def exec_fd47_LD_B_A (s : State) : Outcome := prefixedLine "LD B,A" 1 s

/-- R5072: `FD 48`, `Plain("LD C,B", 1)`. -/
def exec_fd48_LD_C_B (s : State) : Outcome := prefixedLine "LD C,B" 1 s

/-- R5073: `FD 49`, `Plain("LD C,C", 1)`. -/
def exec_fd49_LD_C_C (s : State) : Outcome := prefixedLine "LD C,C" 1 s

/-- R5074: `FD 4A`, `Plain("LD C,D", 1)`. -/
def exec_fd4A_LD_C_D (s : State) : Outcome := prefixedLine "LD C,D" 1 s

/-- R5075: `FD 4B`, `Plain("LD C,E", 1)`. -/
def exec_fd4B_LD_C_E (s : State) : Outcome := prefixedLine "LD C,E" 1 s

/-- R5076: `FD 4C`, `Plain("LD C,IYH", 1)`. -/
def exec_fd4C_LD_C_IYH (s : State) : Outcome := prefixedLine "LD C,IYH" 1 s

/-- R5077: `FD 4D`, `Plain("LD C,IYL", 1)`. -/
def exec_fd4D_LD_C_IYL (s : State) : Outcome := prefixedLine "LD C,IYL" 1 s

/-- R5078: `FD 4E d`, `Plain("LD C,(IY+d)", 2)`. -/
def exec_fd4E_LD_C_mIYd (s : State) : Outcome := prefixedLine "LD C,(IY+d)" 2 s

/-- R5079: `FD 4F`, `Plain("LD C,A", 1)`. -/
def exec_fd4F_LD_C_A (s : State) : Outcome := prefixedLine "LD C,A" 1 s

/-- R5080: `FD 50`, `Plain("LD D,B", 1)`. -/
def exec_fd50_LD_D_B (s : State) : Outcome := prefixedLine "LD D,B" 1 s

/-- R5081: `FD 51`, `Plain("LD D,C", 1)`. -/
def exec_fd51_LD_D_C (s : State) : Outcome := prefixedLine "LD D,C" 1 s

/-- R5082: `FD 52`, `Plain("LD D,D", 1)`. -/
def exec_fd52_LD_D_D (s : State) : Outcome := prefixedLine "LD D,D" 1 s

/-- R5083: `FD 53`, `Plain("LD D,E", 1)`. -/
def exec_fd53_LD_D_E (s : State) : Outcome := prefixedLine "LD D,E" 1 s

/-- R5084: `FD 54`, `Plain("LD D,IYH", 1)`. -/
def exec_fd54_LD_D_IYH (s : State) : Outcome := prefixedLine "LD D,IYH" 1 s

/-- R5085: `FD 55`, `Plain("LD D,IYL", 1)`. -/
def exec_fd55_LD_D_IYL (s : State) : Outcome := prefixedLine "LD D,IYL" 1 s

/-- R5086: `FD 56 d`, `Plain("LD D,(IY+d)", 2)`. -/
def exec_fd56_LD_D_mIYd (s : State) : Outcome := prefixedLine "LD D,(IY+d)" 2 s

/-- R5087: `FD 57`, `Plain("LD D,A", 1)`. -/
def exec_fd57_LD_D_A (s : State) : Outcome := prefixedLine "LD D,A" 1 s

/-- R5088: `FD 58`, `Plain("LD E,B", 1)`. -/
def exec_fd58_LD_E_B (s : State) : Outcome := prefixedLine "LD E,B" 1 s

/-- R5089: `FD 59`, `Plain("LD E,C", 1)`. -/
def exec_fd59_LD_E_C (s : State) : Outcome := prefixedLine "LD E,C" 1 s

/-- R5090: `FD 5A`, `Plain("LD E,D", 1)`. -/
def exec_fd5A_LD_E_D (s : State) : Outcome := prefixedLine "LD E,D" 1 s

/-- R5091: `FD 5B`, `Plain("LD E,E", 1)`. -/
def exec_fd5B_LD_E_E (s : State) : Outcome := prefixedLine "LD E,E" 1 s

/-- R5092: `FD 5C`, `Plain("LD E,IYH", 1)`. -/
def exec_fd5C_LD_E_IYH (s : State) : Outcome := prefixedLine "LD E,IYH" 1 s

/-- R5093: `FD 5D`, `Plain("LD E,IYL", 1)`. -/
def exec_fd5D_LD_E_IYL (s : State) : Outcome := prefixedLine "LD E,IYL" 1 s

/-- R5094: `FD 5E d`, `Plain("LD E,(IY+d)", 2)`. -/
def exec_fd5E_LD_E_mIYd (s : State) : Outcome := prefixedLine "LD E,(IY+d)" 2 s

/-- R5095: `FD 5F`, `Plain("LD E,A", 1)`. -/
def exec_fd5F_LD_E_A (s : State) : Outcome := prefixedLine "LD E,A" 1 s

/-- R5096: `FD 60`, `Plain("LD IYH,B", 1)`. -/
def exec_fd60_LD_IYH_B (s : State) : Outcome := prefixedLine "LD IYH,B" 1 s

/-- R5097: `FD 61`, `Plain("LD IYH,C", 1)`. -/
def exec_fd61_LD_IYH_C (s : State) : Outcome := prefixedLine "LD IYH,C" 1 s

/-- R5098: `FD 62`, `Plain("LD IYH,D", 1)`. -/
def exec_fd62_LD_IYH_D (s : State) : Outcome := prefixedLine "LD IYH,D" 1 s

/-- R5099: `FD 63`, `Plain("LD IYH,E", 1)`. -/
def exec_fd63_LD_IYH_E (s : State) : Outcome := prefixedLine "LD IYH,E" 1 s

/-- R5100: `FD 64`, `Plain("LD IYH,IYH", 1)`. -/
def exec_fd64_LD_IYH_IYH (s : State) : Outcome := prefixedLine "LD IYH,IYH" 1 s

/-- R5101: `FD 65`, `Plain("LD IYH,IYL", 1)`. -/
def exec_fd65_LD_IYH_IYL (s : State) : Outcome := prefixedLine "LD IYH,IYL" 1 s

/-- R5102: `FD 66 d`, `Plain("LD H,(IY+d)", 2)`. -/
def exec_fd66_LD_H_mIYd (s : State) : Outcome := prefixedLine "LD H,(IY+d)" 2 s

/-- R5103: `FD 67`, `Plain("LD IYH,A", 1)`. -/
def exec_fd67_LD_IYH_A (s : State) : Outcome := prefixedLine "LD IYH,A" 1 s

/-- R5104: `FD 68`, `Plain("LD IYL,B", 1)`. -/
def exec_fd68_LD_IYL_B (s : State) : Outcome := prefixedLine "LD IYL,B" 1 s

/-- R5105: `FD 69`, `Plain("LD IYL,C", 1)`. -/
def exec_fd69_LD_IYL_C (s : State) : Outcome := prefixedLine "LD IYL,C" 1 s

/-- R5106: `FD 6A`, `Plain("LD IYL,D", 1)`. -/
def exec_fd6A_LD_IYL_D (s : State) : Outcome := prefixedLine "LD IYL,D" 1 s

/-- R5107: `FD 6B`, `Plain("LD IYL,E", 1)`. -/
def exec_fd6B_LD_IYL_E (s : State) : Outcome := prefixedLine "LD IYL,E" 1 s

/-- R5108: `FD 6C`, `Plain("LD IYL,IYH", 1)`. -/
def exec_fd6C_LD_IYL_IYH (s : State) : Outcome := prefixedLine "LD IYL,IYH" 1 s

/-- R5109: `FD 6D`, `Plain("LD IYL,IYL", 1)`. -/
def exec_fd6D_LD_IYL_IYL (s : State) : Outcome := prefixedLine "LD IYL,IYL" 1 s

/-- R5110: `FD 6E d`, `Plain("LD L,(IY+d)", 2)`. -/
def exec_fd6E_LD_L_mIYd (s : State) : Outcome := prefixedLine "LD L,(IY+d)" 2 s

/-- R5111: `FD 6F`, `Plain("LD IYL,A", 1)`. -/
def exec_fd6F_LD_IYL_A (s : State) : Outcome := prefixedLine "LD IYL,A" 1 s

/-- R5112: `FD 70 d`, `Plain("LD (IY+d),B", 2)`. -/
def exec_fd70_LD_mIYd_B (s : State) : Outcome := prefixedLine "LD (IY+d),B" 2 s

/-- R5113: `FD 71 d`, `Plain("LD (IY+d),C", 2)`. -/
def exec_fd71_LD_mIYd_C (s : State) : Outcome := prefixedLine "LD (IY+d),C" 2 s

/-- R5114: `FD 72 d`, `Plain("LD (IY+d),D", 2)`. -/
def exec_fd72_LD_mIYd_D (s : State) : Outcome := prefixedLine "LD (IY+d),D" 2 s

/-- R5115: `FD 73 d`, `Plain("LD (IY+d),E", 2)`. -/
def exec_fd73_LD_mIYd_E (s : State) : Outcome := prefixedLine "LD (IY+d),E" 2 s

/-- R5116: `FD 74 d`, `Plain("LD (IY+d),H", 2)`. -/
def exec_fd74_LD_mIYd_H (s : State) : Outcome := prefixedLine "LD (IY+d),H" 2 s

/-- R5117: `FD 75 d`, `Plain("LD (IY+d),L", 2)`. -/
def exec_fd75_LD_mIYd_L (s : State) : Outcome := prefixedLine "LD (IY+d),L" 2 s

/-- R5118: `FD 76`, `Plain("HALT", 1)`. -/
def exec_fd76_HALT (s : State) : Outcome := prefixedLine "HALT" 1 s

/-- R5119: `FD 77 d`, `Plain("LD (IY+d),A", 2)`. -/
def exec_fd77_LD_mIYd_A (s : State) : Outcome := prefixedLine "LD (IY+d),A" 2 s

/-- R5120: `FD 78`, `Plain("LD A,B", 1)`. -/
def exec_fd78_LD_A_B (s : State) : Outcome := prefixedLine "LD A,B" 1 s

/-- R5121: `FD 79`, `Plain("LD A,C", 1)`. -/
def exec_fd79_LD_A_C (s : State) : Outcome := prefixedLine "LD A,C" 1 s

/-- R5122: `FD 7A`, `Plain("LD A,D", 1)`. -/
def exec_fd7A_LD_A_D (s : State) : Outcome := prefixedLine "LD A,D" 1 s

/-- R5123: `FD 7B`, `Plain("LD A,E", 1)`. -/
def exec_fd7B_LD_A_E (s : State) : Outcome := prefixedLine "LD A,E" 1 s

/-- R5124: `FD 7C`, `Plain("LD A,IYH", 1)`. -/
def exec_fd7C_LD_A_IYH (s : State) : Outcome := prefixedLine "LD A,IYH" 1 s

/-- R5125: `FD 7D`, `Plain("LD A,IYL", 1)`. -/
def exec_fd7D_LD_A_IYL (s : State) : Outcome := prefixedLine "LD A,IYL" 1 s

/-- R5126: `FD 7E d`, `Plain("LD A,(IY+d)", 2)`. -/
def exec_fd7E_LD_A_mIYd (s : State) : Outcome := prefixedLine "LD A,(IY+d)" 2 s

/-- R5127: `FD 7F`, `Plain("LD A,A", 1)`. -/
def exec_fd7F_LD_A_A (s : State) : Outcome := prefixedLine "LD A,A" 1 s

/-- R5128: `FD 80`, `Plain("ADD A,B", 1)`. -/
def exec_fd80_ADD_A_B (s : State) : Outcome := prefixedLine "ADD A,B" 1 s

/-- R5129: `FD 81`, `Plain("ADD A,C", 1)`. -/
def exec_fd81_ADD_A_C (s : State) : Outcome := prefixedLine "ADD A,C" 1 s

/-- R5130: `FD 82`, `Plain("ADD A,D", 1)`. -/
def exec_fd82_ADD_A_D (s : State) : Outcome := prefixedLine "ADD A,D" 1 s

/-- R5131: `FD 83`, `Plain("ADD A,E", 1)`. -/
def exec_fd83_ADD_A_E (s : State) : Outcome := prefixedLine "ADD A,E" 1 s

/-- R5132: `FD 84`, `Plain("ADD A,IYH", 1)`. -/
def exec_fd84_ADD_A_IYH (s : State) : Outcome := prefixedLine "ADD A,IYH" 1 s

/-- R5133: `FD 85`, `Plain("ADD A,IYL", 1)`. -/
def exec_fd85_ADD_A_IYL (s : State) : Outcome := prefixedLine "ADD A,IYL" 1 s

/-- R5134: `FD 86 d`, `Plain("ADD A,(IY+d)", 2)`. -/
def exec_fd86_ADD_A_mIYd (s : State) : Outcome := prefixedLine "ADD A,(IY+d)" 2 s

/-- R5135: `FD 87`, `Plain("ADD A,A", 1)`. -/
def exec_fd87_ADD_A_A (s : State) : Outcome := prefixedLine "ADD A,A" 1 s

/-- R5136: `FD 88`, `Plain("ADC A,B", 1)`. -/
def exec_fd88_ADC_A_B (s : State) : Outcome := prefixedLine "ADC A,B" 1 s

/-- R5137: `FD 89`, `Plain("ADC A,C", 1)`. -/
def exec_fd89_ADC_A_C (s : State) : Outcome := prefixedLine "ADC A,C" 1 s

/-- R5138: `FD 8A`, `Plain("ADC A,D", 1)`. -/
def exec_fd8A_ADC_A_D (s : State) : Outcome := prefixedLine "ADC A,D" 1 s

/-- R5139: `FD 8B`, `Plain("ADC A,E", 1)`. -/
def exec_fd8B_ADC_A_E (s : State) : Outcome := prefixedLine "ADC A,E" 1 s

/-- R5140: `FD 8C`, `Plain("ADC A,IYH", 1)`. -/
def exec_fd8C_ADC_A_IYH (s : State) : Outcome := prefixedLine "ADC A,IYH" 1 s

/-- R5141: `FD 8D`, `Plain("ADC A,IYL", 1)`. -/
def exec_fd8D_ADC_A_IYL (s : State) : Outcome := prefixedLine "ADC A,IYL" 1 s

/-- R5142: `FD 8E d`, `Plain("ADC A,(IY+d)", 2)`. -/
def exec_fd8E_ADC_A_mIYd (s : State) : Outcome := prefixedLine "ADC A,(IY+d)" 2 s

/-- R5143: `FD 8F`, `Plain("ADC A,A", 1)`. -/
def exec_fd8F_ADC_A_A (s : State) : Outcome := prefixedLine "ADC A,A" 1 s

/-- R5144: `FD 90`, `Plain("SUB B", 1)`. -/
def exec_fd90_SUB_B (s : State) : Outcome := prefixedLine "SUB B" 1 s

/-- R5145: `FD 91`, `Plain("SUB C", 1)`. -/
def exec_fd91_SUB_C (s : State) : Outcome := prefixedLine "SUB C" 1 s

/-- R5146: `FD 92`, `Plain("SUB D", 1)`. -/
def exec_fd92_SUB_D (s : State) : Outcome := prefixedLine "SUB D" 1 s

/-- R5147: `FD 93`, `Plain("SUB E", 1)`. -/
def exec_fd93_SUB_E (s : State) : Outcome := prefixedLine "SUB E" 1 s

/-- R5148: `FD 94`, `Plain("SUB IYH", 1)`. -/
def exec_fd94_SUB_IYH (s : State) : Outcome := prefixedLine "SUB IYH" 1 s

/-- R5149: `FD 95`, `Plain("SUB IYL", 1)`. -/
def exec_fd95_SUB_IYL (s : State) : Outcome := prefixedLine "SUB IYL" 1 s

/-- R5150: `FD 96 d`, `Plain("SUB (IY+d)", 2)`. -/
def exec_fd96_SUB_mIYd (s : State) : Outcome := prefixedLine "SUB (IY+d)" 2 s

/-- R5151: `FD 97`, `Plain("SUB A", 1)`. -/
def exec_fd97_SUB_A (s : State) : Outcome := prefixedLine "SUB A" 1 s

/-- R5152: `FD 98`, `Plain("SBC A,B", 1)`. -/
def exec_fd98_SBC_A_B (s : State) : Outcome := prefixedLine "SBC A,B" 1 s

/-- R5153: `FD 99`, `Plain("SBC A,C", 1)`. -/
def exec_fd99_SBC_A_C (s : State) : Outcome := prefixedLine "SBC A,C" 1 s

/-- R5154: `FD 9A`, `Plain("SBC A,D", 1)`. -/
def exec_fd9A_SBC_A_D (s : State) : Outcome := prefixedLine "SBC A,D" 1 s

/-- R5155: `FD 9B`, `Plain("SBC A,E", 1)`. -/
def exec_fd9B_SBC_A_E (s : State) : Outcome := prefixedLine "SBC A,E" 1 s

/-- R5156: `FD 9C`, `Plain("SBC A,IYH", 1)`. -/
def exec_fd9C_SBC_A_IYH (s : State) : Outcome := prefixedLine "SBC A,IYH" 1 s

/-- R5157: `FD 9D`, `Plain("SBC A,IYL", 1)`. -/
def exec_fd9D_SBC_A_IYL (s : State) : Outcome := prefixedLine "SBC A,IYL" 1 s

/-- R5158: `FD 9E d`, `Plain("SBC A,(IY+d)", 2)`. -/
def exec_fd9E_SBC_A_mIYd (s : State) : Outcome := prefixedLine "SBC A,(IY+d)" 2 s

/-- R5159: `FD 9F`, `Plain("SBC A,A", 1)`. -/
def exec_fd9F_SBC_A_A (s : State) : Outcome := prefixedLine "SBC A,A" 1 s

/-- R5160: `FD A0`, `Plain("AND B", 1)`. -/
def exec_fdA0_AND_B (s : State) : Outcome := prefixedLine "AND B" 1 s

/-- R5161: `FD A1`, `Plain("AND C", 1)`. -/
def exec_fdA1_AND_C (s : State) : Outcome := prefixedLine "AND C" 1 s

/-- R5162: `FD A2`, `Plain("AND D", 1)`. -/
def exec_fdA2_AND_D (s : State) : Outcome := prefixedLine "AND D" 1 s

/-- R5163: `FD A3`, `Plain("AND E", 1)`. -/
def exec_fdA3_AND_E (s : State) : Outcome := prefixedLine "AND E" 1 s

/-- R5164: `FD A4`, `Plain("AND IYH", 1)`. -/
def exec_fdA4_AND_IYH (s : State) : Outcome := prefixedLine "AND IYH" 1 s

/-- R5165: `FD A5`, `Plain("AND IYL", 1)`. -/
def exec_fdA5_AND_IYL (s : State) : Outcome := prefixedLine "AND IYL" 1 s

/-- R5166: `FD A6 d`, `Plain("AND (IY+d)", 2)`. -/
def exec_fdA6_AND_mIYd (s : State) : Outcome := prefixedLine "AND (IY+d)" 2 s

/-- R5167: `FD A7`, `Plain("AND A", 1)`. -/
def exec_fdA7_AND_A (s : State) : Outcome := prefixedLine "AND A" 1 s

/-- R5168: `FD A8`, `Plain("XOR B", 1)`. -/
def exec_fdA8_XOR_B (s : State) : Outcome := prefixedLine "XOR B" 1 s

/-- R5169: `FD A9`, `Plain("XOR C", 1)`. -/
def exec_fdA9_XOR_C (s : State) : Outcome := prefixedLine "XOR C" 1 s

/-- R5170: `FD AA`, `Plain("XOR D", 1)`. -/
def exec_fdAA_XOR_D (s : State) : Outcome := prefixedLine "XOR D" 1 s

/-- R5171: `FD AB`, `Plain("XOR E", 1)`. -/
def exec_fdAB_XOR_E (s : State) : Outcome := prefixedLine "XOR E" 1 s

/-- R5172: `FD AC`, `Plain("XOR IYH", 1)`. -/
def exec_fdAC_XOR_IYH (s : State) : Outcome := prefixedLine "XOR IYH" 1 s

/-- R5173: `FD AD`, `Plain("XOR IYL", 1)`. -/
def exec_fdAD_XOR_IYL (s : State) : Outcome := prefixedLine "XOR IYL" 1 s

/-- R5174: `FD AE d`, `Plain("XOR (IY+d)", 2)`. -/
def exec_fdAE_XOR_mIYd (s : State) : Outcome := prefixedLine "XOR (IY+d)" 2 s

/-- R5175: `FD AF`, `Plain("XOR A", 1)`. -/
def exec_fdAF_XOR_A (s : State) : Outcome := prefixedLine "XOR A" 1 s

/-- R5176: `FD B0`, `Plain("OR B", 1)`. -/
def exec_fdB0_OR_B (s : State) : Outcome := prefixedLine "OR B" 1 s

/-- R5177: `FD B1`, `Plain("OR C", 1)`. -/
def exec_fdB1_OR_C (s : State) : Outcome := prefixedLine "OR C" 1 s

/-- R5178: `FD B2`, `Plain("OR D", 1)`. -/
def exec_fdB2_OR_D (s : State) : Outcome := prefixedLine "OR D" 1 s

/-- R5179: `FD B3`, `Plain("OR E", 1)`. -/
def exec_fdB3_OR_E (s : State) : Outcome := prefixedLine "OR E" 1 s

/-- R5180: `FD B4`, `Plain("OR IYH", 1)`. -/
def exec_fdB4_OR_IYH (s : State) : Outcome := prefixedLine "OR IYH" 1 s

/-- R5181: `FD B5`, `Plain("OR IYL", 1)`. -/
def exec_fdB5_OR_IYL (s : State) : Outcome := prefixedLine "OR IYL" 1 s

/-- R5182: `FD B6 d`, `Plain("OR (IY+d)", 2)`. -/
def exec_fdB6_OR_mIYd (s : State) : Outcome := prefixedLine "OR (IY+d)" 2 s

/-- R5183: `FD B7`, `Plain("OR A", 1)`. -/
def exec_fdB7_OR_A (s : State) : Outcome := prefixedLine "OR A" 1 s

/-- R5184: `FD B8`, `Plain("CP B", 1)`. -/
def exec_fdB8_CP_B (s : State) : Outcome := prefixedLine "CP B" 1 s

/-- R5185: `FD B9`, `Plain("CP C", 1)`. -/
def exec_fdB9_CP_C (s : State) : Outcome := prefixedLine "CP C" 1 s

/-- R5186: `FD BA`, `Plain("CP D", 1)`. -/
def exec_fdBA_CP_D (s : State) : Outcome := prefixedLine "CP D" 1 s

/-- R5187: `FD BB`, `Plain("CP E", 1)`. -/
def exec_fdBB_CP_E (s : State) : Outcome := prefixedLine "CP E" 1 s

/-- R5188: `FD BC`, `Plain("CP IYH", 1)`. -/
def exec_fdBC_CP_IYH (s : State) : Outcome := prefixedLine "CP IYH" 1 s

/-- R5189: `FD BD`, `Plain("CP IYL", 1)`. -/
def exec_fdBD_CP_IYL (s : State) : Outcome := prefixedLine "CP IYL" 1 s

/-- R5190: `FD BE d`, `Plain("CP (IY+d)", 2)`. -/
def exec_fdBE_CP_mIYd (s : State) : Outcome := prefixedLine "CP (IY+d)" 2 s

/-- R5191: `FD BF`, `Plain("CP A", 1)`. -/
def exec_fdBF_CP_A (s : State) : Outcome := prefixedLine "CP A" 1 s

/-- R5192: `FD C0`, `Plain("RET NZ", 1)`. -/
def exec_fdC0_RET_NZ (s : State) : Outcome := prefixedLine "RET NZ" 1 s

/-- R5193: `FD C1`, `Plain("POP BC", 1)`. -/
def exec_fdC1_POP_BC (s : State) : Outcome := prefixedLine "POP BC" 1 s

/-- R5194: `FD C2 lo hi`, `Plain("JP NZ,nn", 3)`. -/
def exec_fdC2_JP_NZ_nn (s : State) : Outcome := prefixedLine "JP NZ,nn" 3 s

/-- R5195: `FD C3 lo hi`, `Plain("JP nn", 3)`. -/
def exec_fdC3_JP_nn (s : State) : Outcome := prefixedLine "JP nn" 3 s

/-- R5196: `FD C4 lo hi`, `Plain("CALL NZ,nn", 3)`. -/
def exec_fdC4_CALL_NZ_nn (s : State) : Outcome := prefixedLine "CALL NZ,nn" 3 s

/-- R5197: `FD C5`, `Plain("PUSH BC", 1)`. -/
def exec_fdC5_PUSH_BC (s : State) : Outcome := prefixedLine "PUSH BC" 1 s

/-- R5198: `FD C6 n`, `Plain("ADD A,n", 2)`. -/
def exec_fdC6_ADD_A_n (s : State) : Outcome := prefixedLine "ADD A,n" 2 s

/-- R5199: `FD C7`, `Plain("RST 00H", 1)`. -/
def exec_fdC7_RST_00H (s : State) : Outcome := prefixedLine "RST 00H" 1 s

/-- R5200: `FD C8`, `Plain("RET Z", 1)`. -/
def exec_fdC8_RET_Z (s : State) : Outcome := prefixedLine "RET Z" 1 s

/-- R5201: `FD C9`, `Plain("RET", 1)`. -/
def exec_fdC9_RET (s : State) : Outcome := prefixedLine "RET" 1 s

/-- R5202: `FD CA lo hi`, `Plain("JP Z,nn", 3)`. -/
def exec_fdCA_JP_Z_nn (s : State) : Outcome := prefixedLine "JP Z,nn" 3 s

/-- R5203: `FD CB` is `DisplacedPrefixTo(FDCB)`. -/
def exec_fdCB_PREFIX_FDCB (s : State) : Outcome :=
  displacedRow (defaultTables s.placeholder) .fdcb s

/-- R5204: `FD CC lo hi`, `Plain("CALL Z,nn", 3)`. -/
def exec_fdCC_CALL_Z_nn (s : State) : Outcome := prefixedLine "CALL Z,nn" 3 s

/-- R5205: `FD CD lo hi`, `Plain("CALL nn", 3)`. -/
def exec_fdCD_CALL_nn (s : State) : Outcome := prefixedLine "CALL nn" 3 s

/-- R5206: `FD CE n`, `Plain("ADC A,n", 2)`. -/
def exec_fdCE_ADC_A_n (s : State) : Outcome := prefixedLine "ADC A,n" 2 s

/-- R5207: `FD CF`, `Plain("RST 08H", 1)`. -/
def exec_fdCF_RST_08H (s : State) : Outcome := prefixedLine "RST 08H" 1 s

/-- R5208: `FD D0`, `Plain("RET NC", 1)`. -/
def exec_fdD0_RET_NC (s : State) : Outcome := prefixedLine "RET NC" 1 s

/-- R5209: `FD D1`, `Plain("POP DE", 1)`. -/
def exec_fdD1_POP_DE (s : State) : Outcome := prefixedLine "POP DE" 1 s

/-- R5210: `FD D2 lo hi`, `Plain("JP NC,nn", 3)`. -/
def exec_fdD2_JP_NC_nn (s : State) : Outcome := prefixedLine "JP NC,nn" 3 s

/-- R5211: `FD D3 n`, `Plain("OUT (n),A", 2)`. -/
def exec_fdD3_OUT_mn_A (s : State) : Outcome := prefixedLine "OUT (n),A" 2 s

/-- R5212: `FD D4 lo hi`, `Plain("CALL NC,nn", 3)`. -/
def exec_fdD4_CALL_NC_nn (s : State) : Outcome := prefixedLine "CALL NC,nn" 3 s

/-- R5213: `FD D5`, `Plain("PUSH DE", 1)`. -/
def exec_fdD5_PUSH_DE (s : State) : Outcome := prefixedLine "PUSH DE" 1 s

/-- R5214: `FD D6 n`, `Plain("SUB n", 2)`. -/
def exec_fdD6_SUB_n (s : State) : Outcome := prefixedLine "SUB n" 2 s

/-- R5215: `FD D7`, `Plain("RST 10H", 1)`. -/
def exec_fdD7_RST_10H (s : State) : Outcome := prefixedLine "RST 10H" 1 s

/-- R5216: `FD D8`, `Plain("RET C", 1)`. -/
def exec_fdD8_RET_C (s : State) : Outcome := prefixedLine "RET C" 1 s

/-- R5217: `FD D9`, `Plain("EXX", 1)`. -/
def exec_fdD9_EXX (s : State) : Outcome := prefixedLine "EXX" 1 s

/-- R5218: `FD DA lo hi`, `Plain("JP C,nn", 3)`. -/
def exec_fdDA_JP_C_nn (s : State) : Outcome := prefixedLine "JP C,nn" 3 s

/-- R5219: `FD DB n`, `Plain("IN A,(n)", 2)`. -/
def exec_fdDB_IN_A_mn (s : State) : Outcome := prefixedLine "IN A,(n)" 2 s

/-- R5220: `FD DC lo hi`, `Plain("CALL C,nn", 3)`. -/
def exec_fdDC_CALL_C_nn (s : State) : Outcome := prefixedLine "CALL C,nn" 3 s

/-- R5221: `FD DD`, `Placeholder(PLACEHOLDER_MNEMONIC, 1)`. -/
def exec_fdDD_PLACEHOLDER (s : State) : Outcome := prefixedLine s.placeholder 1 s

/-- R5222: `FD DE n`, `Plain("SBC A,n", 2)`. -/
def exec_fdDE_SBC_A_n (s : State) : Outcome := prefixedLine "SBC A,n" 2 s

/-- R5223: `FD DF`, `Plain("RST 18H", 1)`. -/
def exec_fdDF_RST_18H (s : State) : Outcome := prefixedLine "RST 18H" 1 s

/-- R5224: `FD E0`, `Plain("RET PO", 1)`. -/
def exec_fdE0_RET_PO (s : State) : Outcome := prefixedLine "RET PO" 1 s

/-- R5225: `FD E1`, `Plain("POP IY", 1)`. -/
def exec_fdE1_POP_IY (s : State) : Outcome := prefixedLine "POP IY" 1 s

/-- R5226: `FD E2 lo hi`, `Plain("JP PO,nn", 3)`. -/
def exec_fdE2_JP_PO_nn (s : State) : Outcome := prefixedLine "JP PO,nn" 3 s

/-- R5227: `FD E3`, `Plain("EX (SP),IY", 1)`. -/
def exec_fdE3_EX_mSP_IY (s : State) : Outcome := prefixedLine "EX (SP),IY" 1 s

/-- R5228: `FD E4 lo hi`, `Plain("CALL PO,nn", 3)`. -/
def exec_fdE4_CALL_PO_nn (s : State) : Outcome := prefixedLine "CALL PO,nn" 3 s

/-- R5229: `FD E5`, `Plain("PUSH IY", 1)`. -/
def exec_fdE5_PUSH_IY (s : State) : Outcome := prefixedLine "PUSH IY" 1 s

/-- R5230: `FD E6 n`, `Plain("AND n", 2)`. -/
def exec_fdE6_AND_n (s : State) : Outcome := prefixedLine "AND n" 2 s

/-- R5231: `FD E7`, `Plain("RST 20H", 1)`. -/
def exec_fdE7_RST_20H (s : State) : Outcome := prefixedLine "RST 20H" 1 s

/-- R5232: `FD E8`, `Plain("RET PE", 1)`. -/
def exec_fdE8_RET_PE (s : State) : Outcome := prefixedLine "RET PE" 1 s

/-- R5233: `FD E9`, `Plain("JP (IY)", 1)`. -/
def exec_fdE9_JP_mIY (s : State) : Outcome := prefixedLine "JP (IY)" 1 s

/-- R5234: `FD EA lo hi`, `Plain("JP PE,nn", 3)`. -/
def exec_fdEA_JP_PE_nn (s : State) : Outcome := prefixedLine "JP PE,nn" 3 s

/-- R5235: `FD EB`, `Plain("EX DE,HL", 1)`. -/
def exec_fdEB_EX_DE_HL (s : State) : Outcome := prefixedLine "EX DE,HL" 1 s

/-- R5236: `FD EC lo hi`, `Plain("CALL PE,nn", 3)`. -/
def exec_fdEC_CALL_PE_nn (s : State) : Outcome := prefixedLine "CALL PE,nn" 3 s

/-- R5237: `FD ED`, `Placeholder(PLACEHOLDER_MNEMONIC, 1)`. -/
def exec_fdED_PLACEHOLDER (s : State) : Outcome := prefixedLine s.placeholder 1 s

/-- R5238: `FD EE n`, `Plain("XOR n", 2)`. -/
def exec_fdEE_XOR_n (s : State) : Outcome := prefixedLine "XOR n" 2 s

/-- R5239: `FD EF`, `Plain("RST 28H", 1)`. -/
def exec_fdEF_RST_28H (s : State) : Outcome := prefixedLine "RST 28H" 1 s

/-- R5240: `FD F0`, `Plain("RET P", 1)`. -/
def exec_fdF0_RET_P (s : State) : Outcome := prefixedLine "RET P" 1 s

/-- R5241: `FD F1`, `Plain("POP AF", 1)`. -/
def exec_fdF1_POP_AF (s : State) : Outcome := prefixedLine "POP AF" 1 s

/-- R5242: `FD F2 lo hi`, `Plain("JP P,nn", 3)`. -/
def exec_fdF2_JP_P_nn (s : State) : Outcome := prefixedLine "JP P,nn" 3 s

/-- R5243: `FD F3`, `Plain("DI", 1)`. -/
def exec_fdF3_DI (s : State) : Outcome := prefixedLine "DI" 1 s

/-- R5244: `FD F4 lo hi`, `Plain("CALL P,nn", 3)`. -/
def exec_fdF4_CALL_P_nn (s : State) : Outcome := prefixedLine "CALL P,nn" 3 s

/-- R5245: `FD F5`, `Plain("PUSH AF", 1)`. -/
def exec_fdF5_PUSH_AF (s : State) : Outcome := prefixedLine "PUSH AF" 1 s

/-- R5246: `FD F6 n`, `Plain("OR n", 2)`. -/
def exec_fdF6_OR_n (s : State) : Outcome := prefixedLine "OR n" 2 s

/-- R5247: `FD F7`, `Plain("RST 30H", 1)`. -/
def exec_fdF7_RST_30H (s : State) : Outcome := prefixedLine "RST 30H" 1 s

/-- R5248: `FD F8`, `Plain("RET M", 1)`. -/
def exec_fdF8_RET_M (s : State) : Outcome := prefixedLine "RET M" 1 s

/-- R5249: `FD F9`, `Plain("LD SP,IY", 1)`. -/
def exec_fdF9_LD_SP_IY (s : State) : Outcome := prefixedLine "LD SP,IY" 1 s

/-- R5250: `FD FA lo hi`, `Plain("JP M,nn", 3)`. -/
def exec_fdFA_JP_M_nn (s : State) : Outcome := prefixedLine "JP M,nn" 3 s

/-- R5251: `FD FB`, `Plain("EI", 1)`. -/
def exec_fdFB_EI (s : State) : Outcome := prefixedLine "EI" 1 s

/-- R5252: `FD FC lo hi`, `Plain("CALL M,nn", 3)`. -/
def exec_fdFC_CALL_M_nn (s : State) : Outcome := prefixedLine "CALL M,nn" 3 s

/-- R5253: `FD FD`, `Placeholder(PLACEHOLDER_MNEMONIC, 1)`. -/
def exec_fdFD_PLACEHOLDER (s : State) : Outcome := prefixedLine s.placeholder 1 s

/-- R5254: `FD FE n`, `Plain("CP n", 2)`. -/
def exec_fdFE_CP_n (s : State) : Outcome := prefixedLine "CP n" 2 s

/-- R5255: `FD FF`, `Plain("RST 38H", 1)`. -/
def exec_fdFF_RST_38H (s : State) : Outcome := prefixedLine "RST 38H" 1 s

end Sys2Proof.Machine
end

