-- ==== Sys2Proof/Machine/Fdcb.lean ====
section
/-! DEFINITION. The meanings of the FD CB displaced table: rules R7000 to R7255 of 47_fdcb_00-7F.md and 47_fdcb_80-FF.md, in index order. Each docstring gives the rule, the bytes in stream order and the descriptor. -/

namespace Sys2Proof.Machine

/-- R7000: `FD CB d 00`, `Plain("RLC (IY+d),B", 2)`. -/
def exec_fdcb00_RLC_mIYd_B (s : State) : Outcome := displacedLine "RLC (IY+d),B" s

/-- R7001: `FD CB d 01`, `Plain("RLC (IY+d),C", 2)`. -/
def exec_fdcb01_RLC_mIYd_C (s : State) : Outcome := displacedLine "RLC (IY+d),C" s

/-- R7002: `FD CB d 02`, `Plain("RLC (IY+d),D", 2)`. -/
def exec_fdcb02_RLC_mIYd_D (s : State) : Outcome := displacedLine "RLC (IY+d),D" s

/-- R7003: `FD CB d 03`, `Plain("RLC (IY+d),E", 2)`. -/
def exec_fdcb03_RLC_mIYd_E (s : State) : Outcome := displacedLine "RLC (IY+d),E" s

/-- R7004: `FD CB d 04`, `Plain("RLC (IY+d),H", 2)`. -/
def exec_fdcb04_RLC_mIYd_H (s : State) : Outcome := displacedLine "RLC (IY+d),H" s

/-- R7005: `FD CB d 05`, `Plain("RLC (IY+d),L", 2)`. -/
def exec_fdcb05_RLC_mIYd_L (s : State) : Outcome := displacedLine "RLC (IY+d),L" s

/-- R7006: `FD CB d 06`, `Plain("RLC (IY+d)", 2)`. -/
def exec_fdcb06_RLC_mIYd (s : State) : Outcome := displacedLine "RLC (IY+d)" s

/-- R7007: `FD CB d 07`, `Plain("RLC (IY+d),A", 2)`. -/
def exec_fdcb07_RLC_mIYd_A (s : State) : Outcome := displacedLine "RLC (IY+d),A" s

/-- R7008: `FD CB d 08`, `Plain("RRC (IY+d),B", 2)`. -/
def exec_fdcb08_RRC_mIYd_B (s : State) : Outcome := displacedLine "RRC (IY+d),B" s

/-- R7009: `FD CB d 09`, `Plain("RRC (IY+d),C", 2)`. -/
def exec_fdcb09_RRC_mIYd_C (s : State) : Outcome := displacedLine "RRC (IY+d),C" s

/-- R7010: `FD CB d 0A`, `Plain("RRC (IY+d),D", 2)`. -/
def exec_fdcb0A_RRC_mIYd_D (s : State) : Outcome := displacedLine "RRC (IY+d),D" s

/-- R7011: `FD CB d 0B`, `Plain("RRC (IY+d),E", 2)`. -/
def exec_fdcb0B_RRC_mIYd_E (s : State) : Outcome := displacedLine "RRC (IY+d),E" s

/-- R7012: `FD CB d 0C`, `Plain("RRC (IY+d),H", 2)`. -/
def exec_fdcb0C_RRC_mIYd_H (s : State) : Outcome := displacedLine "RRC (IY+d),H" s

/-- R7013: `FD CB d 0D`, `Plain("RRC (IY+d),L", 2)`. -/
def exec_fdcb0D_RRC_mIYd_L (s : State) : Outcome := displacedLine "RRC (IY+d),L" s

/-- R7014: `FD CB d 0E`, `Plain("RRC (IY+d)", 2)`. -/
def exec_fdcb0E_RRC_mIYd (s : State) : Outcome := displacedLine "RRC (IY+d)" s

/-- R7015: `FD CB d 0F`, `Plain("RRC (IY+d),A", 2)`. -/
def exec_fdcb0F_RRC_mIYd_A (s : State) : Outcome := displacedLine "RRC (IY+d),A" s

/-- R7016: `FD CB d 10`, `Plain("RL (IY+d),B", 2)`. -/
def exec_fdcb10_RL_mIYd_B (s : State) : Outcome := displacedLine "RL (IY+d),B" s

/-- R7017: `FD CB d 11`, `Plain("RL (IY+d),C", 2)`. -/
def exec_fdcb11_RL_mIYd_C (s : State) : Outcome := displacedLine "RL (IY+d),C" s

/-- R7018: `FD CB d 12`, `Plain("RL (IY+d),D", 2)`. -/
def exec_fdcb12_RL_mIYd_D (s : State) : Outcome := displacedLine "RL (IY+d),D" s

/-- R7019: `FD CB d 13`, `Plain("RL (IY+d),E", 2)`. -/
def exec_fdcb13_RL_mIYd_E (s : State) : Outcome := displacedLine "RL (IY+d),E" s

/-- R7020: `FD CB d 14`, `Plain("RL (IY+d),H", 2)`. -/
def exec_fdcb14_RL_mIYd_H (s : State) : Outcome := displacedLine "RL (IY+d),H" s

/-- R7021: `FD CB d 15`, `Plain("RL (IY+d),L", 2)`. -/
def exec_fdcb15_RL_mIYd_L (s : State) : Outcome := displacedLine "RL (IY+d),L" s

/-- R7022: `FD CB d 16`, `Plain("RL (IY+d)", 2)`. -/
def exec_fdcb16_RL_mIYd (s : State) : Outcome := displacedLine "RL (IY+d)" s

/-- R7023: `FD CB d 17`, `Plain("RL (IY+d),A", 2)`. -/
def exec_fdcb17_RL_mIYd_A (s : State) : Outcome := displacedLine "RL (IY+d),A" s

/-- R7024: `FD CB d 18`, `Plain("RR (IY+d),B", 2)`. -/
def exec_fdcb18_RR_mIYd_B (s : State) : Outcome := displacedLine "RR (IY+d),B" s

/-- R7025: `FD CB d 19`, `Plain("RR (IY+d),C", 2)`. -/
def exec_fdcb19_RR_mIYd_C (s : State) : Outcome := displacedLine "RR (IY+d),C" s

/-- R7026: `FD CB d 1A`, `Plain("RR (IY+d),D", 2)`. -/
def exec_fdcb1A_RR_mIYd_D (s : State) : Outcome := displacedLine "RR (IY+d),D" s

/-- R7027: `FD CB d 1B`, `Plain("RR (IY+d),E", 2)`. -/
def exec_fdcb1B_RR_mIYd_E (s : State) : Outcome := displacedLine "RR (IY+d),E" s

/-- R7028: `FD CB d 1C`, `Plain("RR (IY+d),H", 2)`. -/
def exec_fdcb1C_RR_mIYd_H (s : State) : Outcome := displacedLine "RR (IY+d),H" s

/-- R7029: `FD CB d 1D`, `Plain("RR (IY+d),L", 2)`. -/
def exec_fdcb1D_RR_mIYd_L (s : State) : Outcome := displacedLine "RR (IY+d),L" s

/-- R7030: `FD CB d 1E`, `Plain("RR (IY+d)", 2)`. -/
def exec_fdcb1E_RR_mIYd (s : State) : Outcome := displacedLine "RR (IY+d)" s

/-- R7031: `FD CB d 1F`, `Plain("RR (IY+d),A", 2)`. -/
def exec_fdcb1F_RR_mIYd_A (s : State) : Outcome := displacedLine "RR (IY+d),A" s

/-- R7032: `FD CB d 20`, `Plain("SLA (IY+d),B", 2)`. -/
def exec_fdcb20_SLA_mIYd_B (s : State) : Outcome := displacedLine "SLA (IY+d),B" s

/-- R7033: `FD CB d 21`, `Plain("SLA (IY+d),C", 2)`. -/
def exec_fdcb21_SLA_mIYd_C (s : State) : Outcome := displacedLine "SLA (IY+d),C" s

/-- R7034: `FD CB d 22`, `Plain("SLA (IY+d),D", 2)`. -/
def exec_fdcb22_SLA_mIYd_D (s : State) : Outcome := displacedLine "SLA (IY+d),D" s

/-- R7035: `FD CB d 23`, `Plain("SLA (IY+d),E", 2)`. -/
def exec_fdcb23_SLA_mIYd_E (s : State) : Outcome := displacedLine "SLA (IY+d),E" s

/-- R7036: `FD CB d 24`, `Plain("SLA (IY+d),H", 2)`. -/
def exec_fdcb24_SLA_mIYd_H (s : State) : Outcome := displacedLine "SLA (IY+d),H" s

/-- R7037: `FD CB d 25`, `Plain("SLA (IY+d),L", 2)`. -/
def exec_fdcb25_SLA_mIYd_L (s : State) : Outcome := displacedLine "SLA (IY+d),L" s

/-- R7038: `FD CB d 26`, `Plain("SLA (IY+d)", 2)`. -/
def exec_fdcb26_SLA_mIYd (s : State) : Outcome := displacedLine "SLA (IY+d)" s

/-- R7039: `FD CB d 27`, `Plain("SLA (IY+d),A", 2)`. -/
def exec_fdcb27_SLA_mIYd_A (s : State) : Outcome := displacedLine "SLA (IY+d),A" s

/-- R7040: `FD CB d 28`, `Plain("SRA (IY+d),B", 2)`. -/
def exec_fdcb28_SRA_mIYd_B (s : State) : Outcome := displacedLine "SRA (IY+d),B" s

/-- R7041: `FD CB d 29`, `Plain("SRA (IY+d),C", 2)`. -/
def exec_fdcb29_SRA_mIYd_C (s : State) : Outcome := displacedLine "SRA (IY+d),C" s

/-- R7042: `FD CB d 2A`, `Plain("SRA (IY+d),D", 2)`. -/
def exec_fdcb2A_SRA_mIYd_D (s : State) : Outcome := displacedLine "SRA (IY+d),D" s

/-- R7043: `FD CB d 2B`, `Plain("SRA (IY+d),E", 2)`. -/
def exec_fdcb2B_SRA_mIYd_E (s : State) : Outcome := displacedLine "SRA (IY+d),E" s

/-- R7044: `FD CB d 2C`, `Plain("SRA (IY+d),H", 2)`. -/
def exec_fdcb2C_SRA_mIYd_H (s : State) : Outcome := displacedLine "SRA (IY+d),H" s

/-- R7045: `FD CB d 2D`, `Plain("SRA (IY+d),L", 2)`. -/
def exec_fdcb2D_SRA_mIYd_L (s : State) : Outcome := displacedLine "SRA (IY+d),L" s

/-- R7046: `FD CB d 2E`, `Plain("SRA (IY+d)", 2)`. -/
def exec_fdcb2E_SRA_mIYd (s : State) : Outcome := displacedLine "SRA (IY+d)" s

/-- R7047: `FD CB d 2F`, `Plain("SRA (IY+d),A", 2)`. -/
def exec_fdcb2F_SRA_mIYd_A (s : State) : Outcome := displacedLine "SRA (IY+d),A" s

/-- R7048: `FD CB d 30`, `Plain("SLL (IY+d),B", 2)`. -/
def exec_fdcb30_SLL_mIYd_B (s : State) : Outcome := displacedLine "SLL (IY+d),B" s

/-- R7049: `FD CB d 31`, `Plain("SLL (IY+d),C", 2)`. -/
def exec_fdcb31_SLL_mIYd_C (s : State) : Outcome := displacedLine "SLL (IY+d),C" s

/-- R7050: `FD CB d 32`, `Plain("SLL (IY+d),D", 2)`. -/
def exec_fdcb32_SLL_mIYd_D (s : State) : Outcome := displacedLine "SLL (IY+d),D" s

/-- R7051: `FD CB d 33`, `Plain("SLL (IY+d),E", 2)`. -/
def exec_fdcb33_SLL_mIYd_E (s : State) : Outcome := displacedLine "SLL (IY+d),E" s

/-- R7052: `FD CB d 34`, `Plain("SLL (IY+d),H", 2)`. -/
def exec_fdcb34_SLL_mIYd_H (s : State) : Outcome := displacedLine "SLL (IY+d),H" s

/-- R7053: `FD CB d 35`, `Plain("SLL (IY+d),L", 2)`. -/
def exec_fdcb35_SLL_mIYd_L (s : State) : Outcome := displacedLine "SLL (IY+d),L" s

/-- R7054: `FD CB d 36`, `Plain("SLL (IY+d)", 2)`. -/
def exec_fdcb36_SLL_mIYd (s : State) : Outcome := displacedLine "SLL (IY+d)" s

/-- R7055: `FD CB d 37`, `Plain("SLL (IY+d),A", 2)`. -/
def exec_fdcb37_SLL_mIYd_A (s : State) : Outcome := displacedLine "SLL (IY+d),A" s

/-- R7056: `FD CB d 38`, `Plain("SRL (IY+d),B", 2)`. -/
def exec_fdcb38_SRL_mIYd_B (s : State) : Outcome := displacedLine "SRL (IY+d),B" s

/-- R7057: `FD CB d 39`, `Plain("SRL (IY+d),C", 2)`. -/
def exec_fdcb39_SRL_mIYd_C (s : State) : Outcome := displacedLine "SRL (IY+d),C" s

/-- R7058: `FD CB d 3A`, `Plain("SRL (IY+d),D", 2)`. -/
def exec_fdcb3A_SRL_mIYd_D (s : State) : Outcome := displacedLine "SRL (IY+d),D" s

/-- R7059: `FD CB d 3B`, `Plain("SRL (IY+d),E", 2)`. -/
def exec_fdcb3B_SRL_mIYd_E (s : State) : Outcome := displacedLine "SRL (IY+d),E" s

/-- R7060: `FD CB d 3C`, `Plain("SRL (IY+d),H", 2)`. -/
def exec_fdcb3C_SRL_mIYd_H (s : State) : Outcome := displacedLine "SRL (IY+d),H" s

/-- R7061: `FD CB d 3D`, `Plain("SRL (IY+d),L", 2)`. -/
def exec_fdcb3D_SRL_mIYd_L (s : State) : Outcome := displacedLine "SRL (IY+d),L" s

/-- R7062: `FD CB d 3E`, `Plain("SRL (IY+d)", 2)`. -/
def exec_fdcb3E_SRL_mIYd (s : State) : Outcome := displacedLine "SRL (IY+d)" s

/-- R7063: `FD CB d 3F`, `Plain("SRL (IY+d),A", 2)`. -/
def exec_fdcb3F_SRL_mIYd_A (s : State) : Outcome := displacedLine "SRL (IY+d),A" s

/-- R7064: `FD CB d 40`, `Plain("BIT 0,(IY+d)", 2)`. -/
def exec_fdcb40_BIT_0_mIYd (s : State) : Outcome := displacedLine "BIT 0,(IY+d)" s

/-- R7065: `FD CB d 41`, `Plain("BIT 0,(IY+d)", 2)`. -/
def exec_fdcb41_BIT_0_mIYd (s : State) : Outcome := displacedLine "BIT 0,(IY+d)" s

/-- R7066: `FD CB d 42`, `Plain("BIT 0,(IY+d)", 2)`. -/
def exec_fdcb42_BIT_0_mIYd (s : State) : Outcome := displacedLine "BIT 0,(IY+d)" s

/-- R7067: `FD CB d 43`, `Plain("BIT 0,(IY+d)", 2)`. -/
def exec_fdcb43_BIT_0_mIYd (s : State) : Outcome := displacedLine "BIT 0,(IY+d)" s

/-- R7068: `FD CB d 44`, `Plain("BIT 0,(IY+d)", 2)`. -/
def exec_fdcb44_BIT_0_mIYd (s : State) : Outcome := displacedLine "BIT 0,(IY+d)" s

/-- R7069: `FD CB d 45`, `Plain("BIT 0,(IY+d)", 2)`. -/
def exec_fdcb45_BIT_0_mIYd (s : State) : Outcome := displacedLine "BIT 0,(IY+d)" s

/-- R7070: `FD CB d 46`, `Plain("BIT 0,(IY+d)", 2)`. -/
def exec_fdcb46_BIT_0_mIYd (s : State) : Outcome := displacedLine "BIT 0,(IY+d)" s

/-- R7071: `FD CB d 47`, `Plain("BIT 0,(IY+d)", 2)`. -/
def exec_fdcb47_BIT_0_mIYd (s : State) : Outcome := displacedLine "BIT 0,(IY+d)" s

/-- R7072: `FD CB d 48`, `Plain("BIT 1,(IY+d)", 2)`. -/
def exec_fdcb48_BIT_1_mIYd (s : State) : Outcome := displacedLine "BIT 1,(IY+d)" s

/-- R7073: `FD CB d 49`, `Plain("BIT 1,(IY+d)", 2)`. -/
def exec_fdcb49_BIT_1_mIYd (s : State) : Outcome := displacedLine "BIT 1,(IY+d)" s

/-- R7074: `FD CB d 4A`, `Plain("BIT 1,(IY+d)", 2)`. -/
def exec_fdcb4A_BIT_1_mIYd (s : State) : Outcome := displacedLine "BIT 1,(IY+d)" s

/-- R7075: `FD CB d 4B`, `Plain("BIT 1,(IY+d)", 2)`. -/
def exec_fdcb4B_BIT_1_mIYd (s : State) : Outcome := displacedLine "BIT 1,(IY+d)" s

/-- R7076: `FD CB d 4C`, `Plain("BIT 1,(IY+d)", 2)`. -/
def exec_fdcb4C_BIT_1_mIYd (s : State) : Outcome := displacedLine "BIT 1,(IY+d)" s

/-- R7077: `FD CB d 4D`, `Plain("BIT 1,(IY+d)", 2)`. -/
def exec_fdcb4D_BIT_1_mIYd (s : State) : Outcome := displacedLine "BIT 1,(IY+d)" s

/-- R7078: `FD CB d 4E`, `Plain("BIT 1,(IY+d)", 2)`. -/
def exec_fdcb4E_BIT_1_mIYd (s : State) : Outcome := displacedLine "BIT 1,(IY+d)" s

/-- R7079: `FD CB d 4F`, `Plain("BIT 1,(IY+d)", 2)`. -/
def exec_fdcb4F_BIT_1_mIYd (s : State) : Outcome := displacedLine "BIT 1,(IY+d)" s

/-- R7080: `FD CB d 50`, `Plain("BIT 2,(IY+d)", 2)`. -/
def exec_fdcb50_BIT_2_mIYd (s : State) : Outcome := displacedLine "BIT 2,(IY+d)" s

/-- R7081: `FD CB d 51`, `Plain("BIT 2,(IY+d)", 2)`. -/
def exec_fdcb51_BIT_2_mIYd (s : State) : Outcome := displacedLine "BIT 2,(IY+d)" s

/-- R7082: `FD CB d 52`, `Plain("BIT 2,(IY+d)", 2)`. -/
def exec_fdcb52_BIT_2_mIYd (s : State) : Outcome := displacedLine "BIT 2,(IY+d)" s

/-- R7083: `FD CB d 53`, `Plain("BIT 2,(IY+d)", 2)`. -/
def exec_fdcb53_BIT_2_mIYd (s : State) : Outcome := displacedLine "BIT 2,(IY+d)" s

/-- R7084: `FD CB d 54`, `Plain("BIT 2,(IY+d)", 2)`. -/
def exec_fdcb54_BIT_2_mIYd (s : State) : Outcome := displacedLine "BIT 2,(IY+d)" s

/-- R7085: `FD CB d 55`, `Plain("BIT 2,(IY+d)", 2)`. -/
def exec_fdcb55_BIT_2_mIYd (s : State) : Outcome := displacedLine "BIT 2,(IY+d)" s

/-- R7086: `FD CB d 56`, `Plain("BIT 2,(IY+d)", 2)`. -/
def exec_fdcb56_BIT_2_mIYd (s : State) : Outcome := displacedLine "BIT 2,(IY+d)" s

/-- R7087: `FD CB d 57`, `Plain("BIT 2,(IY+d)", 2)`. -/
def exec_fdcb57_BIT_2_mIYd (s : State) : Outcome := displacedLine "BIT 2,(IY+d)" s

/-- R7088: `FD CB d 58`, `Plain("BIT 3,(IY+d)", 2)`. -/
def exec_fdcb58_BIT_3_mIYd (s : State) : Outcome := displacedLine "BIT 3,(IY+d)" s

/-- R7089: `FD CB d 59`, `Plain("BIT 3,(IY+d)", 2)`. -/
def exec_fdcb59_BIT_3_mIYd (s : State) : Outcome := displacedLine "BIT 3,(IY+d)" s

/-- R7090: `FD CB d 5A`, `Plain("BIT 3,(IY+d)", 2)`. -/
def exec_fdcb5A_BIT_3_mIYd (s : State) : Outcome := displacedLine "BIT 3,(IY+d)" s

/-- R7091: `FD CB d 5B`, `Plain("BIT 3,(IY+d)", 2)`. -/
def exec_fdcb5B_BIT_3_mIYd (s : State) : Outcome := displacedLine "BIT 3,(IY+d)" s

/-- R7092: `FD CB d 5C`, `Plain("BIT 3,(IY+d)", 2)`. -/
def exec_fdcb5C_BIT_3_mIYd (s : State) : Outcome := displacedLine "BIT 3,(IY+d)" s

/-- R7093: `FD CB d 5D`, `Plain("BIT 3,(IY+d)", 2)`. -/
def exec_fdcb5D_BIT_3_mIYd (s : State) : Outcome := displacedLine "BIT 3,(IY+d)" s

/-- R7094: `FD CB d 5E`, `Plain("BIT 3,(IY+d)", 2)`. -/
def exec_fdcb5E_BIT_3_mIYd (s : State) : Outcome := displacedLine "BIT 3,(IY+d)" s

/-- R7095: `FD CB d 5F`, `Plain("BIT 3,(IY+d)", 2)`. -/
def exec_fdcb5F_BIT_3_mIYd (s : State) : Outcome := displacedLine "BIT 3,(IY+d)" s

/-- R7096: `FD CB d 60`, `Plain("BIT 4,(IY+d)", 2)`. -/
def exec_fdcb60_BIT_4_mIYd (s : State) : Outcome := displacedLine "BIT 4,(IY+d)" s

/-- R7097: `FD CB d 61`, `Plain("BIT 4,(IY+d)", 2)`. -/
def exec_fdcb61_BIT_4_mIYd (s : State) : Outcome := displacedLine "BIT 4,(IY+d)" s

/-- R7098: `FD CB d 62`, `Plain("BIT 4,(IY+d)", 2)`. -/
def exec_fdcb62_BIT_4_mIYd (s : State) : Outcome := displacedLine "BIT 4,(IY+d)" s

/-- R7099: `FD CB d 63`, `Plain("BIT 4,(IY+d)", 2)`. -/
def exec_fdcb63_BIT_4_mIYd (s : State) : Outcome := displacedLine "BIT 4,(IY+d)" s

/-- R7100: `FD CB d 64`, `Plain("BIT 4,(IY+d)", 2)`. -/
def exec_fdcb64_BIT_4_mIYd (s : State) : Outcome := displacedLine "BIT 4,(IY+d)" s

/-- R7101: `FD CB d 65`, `Plain("BIT 4,(IY+d)", 2)`. -/
def exec_fdcb65_BIT_4_mIYd (s : State) : Outcome := displacedLine "BIT 4,(IY+d)" s

/-- R7102: `FD CB d 66`, `Plain("BIT 4,(IY+d)", 2)`. -/
def exec_fdcb66_BIT_4_mIYd (s : State) : Outcome := displacedLine "BIT 4,(IY+d)" s

/-- R7103: `FD CB d 67`, `Plain("BIT 4,(IY+d)", 2)`. -/
def exec_fdcb67_BIT_4_mIYd (s : State) : Outcome := displacedLine "BIT 4,(IY+d)" s

/-- R7104: `FD CB d 68`, `Plain("BIT 5,(IY+d)", 2)`. -/
def exec_fdcb68_BIT_5_mIYd (s : State) : Outcome := displacedLine "BIT 5,(IY+d)" s

/-- R7105: `FD CB d 69`, `Plain("BIT 5,(IY+d)", 2)`. -/
def exec_fdcb69_BIT_5_mIYd (s : State) : Outcome := displacedLine "BIT 5,(IY+d)" s

/-- R7106: `FD CB d 6A`, `Plain("BIT 5,(IY+d)", 2)`. -/
def exec_fdcb6A_BIT_5_mIYd (s : State) : Outcome := displacedLine "BIT 5,(IY+d)" s

/-- R7107: `FD CB d 6B`, `Plain("BIT 5,(IY+d)", 2)`. -/
def exec_fdcb6B_BIT_5_mIYd (s : State) : Outcome := displacedLine "BIT 5,(IY+d)" s

/-- R7108: `FD CB d 6C`, `Plain("BIT 5,(IY+d)", 2)`. -/
def exec_fdcb6C_BIT_5_mIYd (s : State) : Outcome := displacedLine "BIT 5,(IY+d)" s

/-- R7109: `FD CB d 6D`, `Plain("BIT 5,(IY+d)", 2)`. -/
def exec_fdcb6D_BIT_5_mIYd (s : State) : Outcome := displacedLine "BIT 5,(IY+d)" s

/-- R7110: `FD CB d 6E`, `Plain("BIT 5,(IY+d)", 2)`. -/
def exec_fdcb6E_BIT_5_mIYd (s : State) : Outcome := displacedLine "BIT 5,(IY+d)" s

/-- R7111: `FD CB d 6F`, `Plain("BIT 5,(IY+d)", 2)`. -/
def exec_fdcb6F_BIT_5_mIYd (s : State) : Outcome := displacedLine "BIT 5,(IY+d)" s

/-- R7112: `FD CB d 70`, `Plain("BIT 6,(IY+d)", 2)`. -/
def exec_fdcb70_BIT_6_mIYd (s : State) : Outcome := displacedLine "BIT 6,(IY+d)" s

/-- R7113: `FD CB d 71`, `Plain("BIT 6,(IY+d)", 2)`. -/
def exec_fdcb71_BIT_6_mIYd (s : State) : Outcome := displacedLine "BIT 6,(IY+d)" s

/-- R7114: `FD CB d 72`, `Plain("BIT 6,(IY+d)", 2)`. -/
def exec_fdcb72_BIT_6_mIYd (s : State) : Outcome := displacedLine "BIT 6,(IY+d)" s

/-- R7115: `FD CB d 73`, `Plain("BIT 6,(IY+d)", 2)`. -/
def exec_fdcb73_BIT_6_mIYd (s : State) : Outcome := displacedLine "BIT 6,(IY+d)" s

/-- R7116: `FD CB d 74`, `Plain("BIT 6,(IY+d)", 2)`. -/
def exec_fdcb74_BIT_6_mIYd (s : State) : Outcome := displacedLine "BIT 6,(IY+d)" s

/-- R7117: `FD CB d 75`, `Plain("BIT 6,(IY+d)", 2)`. -/
def exec_fdcb75_BIT_6_mIYd (s : State) : Outcome := displacedLine "BIT 6,(IY+d)" s

/-- R7118: `FD CB d 76`, `Plain("BIT 6,(IY+d)", 2)`. -/
def exec_fdcb76_BIT_6_mIYd (s : State) : Outcome := displacedLine "BIT 6,(IY+d)" s

/-- R7119: `FD CB d 77`, `Plain("BIT 6,(IY+d)", 2)`. -/
def exec_fdcb77_BIT_6_mIYd (s : State) : Outcome := displacedLine "BIT 6,(IY+d)" s

/-- R7120: `FD CB d 78`, `Plain("BIT 7,(IY+d)", 2)`. -/
def exec_fdcb78_BIT_7_mIYd (s : State) : Outcome := displacedLine "BIT 7,(IY+d)" s

/-- R7121: `FD CB d 79`, `Plain("BIT 7,(IY+d)", 2)`. -/
def exec_fdcb79_BIT_7_mIYd (s : State) : Outcome := displacedLine "BIT 7,(IY+d)" s

/-- R7122: `FD CB d 7A`, `Plain("BIT 7,(IY+d)", 2)`. -/
def exec_fdcb7A_BIT_7_mIYd (s : State) : Outcome := displacedLine "BIT 7,(IY+d)" s

/-- R7123: `FD CB d 7B`, `Plain("BIT 7,(IY+d)", 2)`. -/
def exec_fdcb7B_BIT_7_mIYd (s : State) : Outcome := displacedLine "BIT 7,(IY+d)" s

/-- R7124: `FD CB d 7C`, `Plain("BIT 7,(IY+d)", 2)`. -/
def exec_fdcb7C_BIT_7_mIYd (s : State) : Outcome := displacedLine "BIT 7,(IY+d)" s

/-- R7125: `FD CB d 7D`, `Plain("BIT 7,(IY+d)", 2)`. -/
def exec_fdcb7D_BIT_7_mIYd (s : State) : Outcome := displacedLine "BIT 7,(IY+d)" s

/-- R7126: `FD CB d 7E`, `Plain("BIT 7,(IY+d)", 2)`. -/
def exec_fdcb7E_BIT_7_mIYd (s : State) : Outcome := displacedLine "BIT 7,(IY+d)" s

/-- R7127: `FD CB d 7F`, `Plain("BIT 7,(IY+d)", 2)`. -/
def exec_fdcb7F_BIT_7_mIYd (s : State) : Outcome := displacedLine "BIT 7,(IY+d)" s

/-- R7128: `FD CB d 80`, `Plain("RES 0,(IY+d),B", 2)`. -/
def exec_fdcb80_RES_0_mIYd_B (s : State) : Outcome := displacedLine "RES 0,(IY+d),B" s

/-- R7129: `FD CB d 81`, `Plain("RES 0,(IY+d),C", 2)`. -/
def exec_fdcb81_RES_0_mIYd_C (s : State) : Outcome := displacedLine "RES 0,(IY+d),C" s

/-- R7130: `FD CB d 82`, `Plain("RES 0,(IY+d),D", 2)`. -/
def exec_fdcb82_RES_0_mIYd_D (s : State) : Outcome := displacedLine "RES 0,(IY+d),D" s

/-- R7131: `FD CB d 83`, `Plain("RES 0,(IY+d),E", 2)`. -/
def exec_fdcb83_RES_0_mIYd_E (s : State) : Outcome := displacedLine "RES 0,(IY+d),E" s

/-- R7132: `FD CB d 84`, `Plain("RES 0,(IY+d),H", 2)`. -/
def exec_fdcb84_RES_0_mIYd_H (s : State) : Outcome := displacedLine "RES 0,(IY+d),H" s

/-- R7133: `FD CB d 85`, `Plain("RES 0,(IY+d),L", 2)`. -/
def exec_fdcb85_RES_0_mIYd_L (s : State) : Outcome := displacedLine "RES 0,(IY+d),L" s

/-- R7134: `FD CB d 86`, `Plain("RES 0,(IY+d)", 2)`. -/
def exec_fdcb86_RES_0_mIYd (s : State) : Outcome := displacedLine "RES 0,(IY+d)" s

/-- R7135: `FD CB d 87`, `Plain("RES 0,(IY+d),A", 2)`. -/
def exec_fdcb87_RES_0_mIYd_A (s : State) : Outcome := displacedLine "RES 0,(IY+d),A" s

/-- R7136: `FD CB d 88`, `Plain("RES 1,(IY+d),B", 2)`. -/
def exec_fdcb88_RES_1_mIYd_B (s : State) : Outcome := displacedLine "RES 1,(IY+d),B" s

/-- R7137: `FD CB d 89`, `Plain("RES 1,(IY+d),C", 2)`. -/
def exec_fdcb89_RES_1_mIYd_C (s : State) : Outcome := displacedLine "RES 1,(IY+d),C" s

/-- R7138: `FD CB d 8A`, `Plain("RES 1,(IY+d),D", 2)`. -/
def exec_fdcb8A_RES_1_mIYd_D (s : State) : Outcome := displacedLine "RES 1,(IY+d),D" s

/-- R7139: `FD CB d 8B`, `Plain("RES 1,(IY+d),E", 2)`. -/
def exec_fdcb8B_RES_1_mIYd_E (s : State) : Outcome := displacedLine "RES 1,(IY+d),E" s

/-- R7140: `FD CB d 8C`, `Plain("RES 1,(IY+d),H", 2)`. -/
def exec_fdcb8C_RES_1_mIYd_H (s : State) : Outcome := displacedLine "RES 1,(IY+d),H" s

/-- R7141: `FD CB d 8D`, `Plain("RES 1,(IY+d),L", 2)`. -/
def exec_fdcb8D_RES_1_mIYd_L (s : State) : Outcome := displacedLine "RES 1,(IY+d),L" s

/-- R7142: `FD CB d 8E`, `Plain("RES 1,(IY+d)", 2)`. -/
def exec_fdcb8E_RES_1_mIYd (s : State) : Outcome := displacedLine "RES 1,(IY+d)" s

/-- R7143: `FD CB d 8F`, `Plain("RES 1,(IY+d),A", 2)`. -/
def exec_fdcb8F_RES_1_mIYd_A (s : State) : Outcome := displacedLine "RES 1,(IY+d),A" s

/-- R7144: `FD CB d 90`, `Plain("RES 2,(IY+d),B", 2)`. -/
def exec_fdcb90_RES_2_mIYd_B (s : State) : Outcome := displacedLine "RES 2,(IY+d),B" s

/-- R7145: `FD CB d 91`, `Plain("RES 2,(IY+d),C", 2)`. -/
def exec_fdcb91_RES_2_mIYd_C (s : State) : Outcome := displacedLine "RES 2,(IY+d),C" s

/-- R7146: `FD CB d 92`, `Plain("RES 2,(IY+d),D", 2)`. -/
def exec_fdcb92_RES_2_mIYd_D (s : State) : Outcome := displacedLine "RES 2,(IY+d),D" s

/-- R7147: `FD CB d 93`, `Plain("RES 2,(IY+d),E", 2)`. -/
def exec_fdcb93_RES_2_mIYd_E (s : State) : Outcome := displacedLine "RES 2,(IY+d),E" s

/-- R7148: `FD CB d 94`, `Plain("RES 2,(IY+d),H", 2)`. -/
def exec_fdcb94_RES_2_mIYd_H (s : State) : Outcome := displacedLine "RES 2,(IY+d),H" s

/-- R7149: `FD CB d 95`, `Plain("RES 2,(IY+d),L", 2)`. -/
def exec_fdcb95_RES_2_mIYd_L (s : State) : Outcome := displacedLine "RES 2,(IY+d),L" s

/-- R7150: `FD CB d 96`, `Plain("RES 2,(IY+d)", 2)`. -/
def exec_fdcb96_RES_2_mIYd (s : State) : Outcome := displacedLine "RES 2,(IY+d)" s

/-- R7151: `FD CB d 97`, `Plain("RES 2,(IY+d),A", 2)`. -/
def exec_fdcb97_RES_2_mIYd_A (s : State) : Outcome := displacedLine "RES 2,(IY+d),A" s

/-- R7152: `FD CB d 98`, `Plain("RES 3,(IY+d),B", 2)`. -/
def exec_fdcb98_RES_3_mIYd_B (s : State) : Outcome := displacedLine "RES 3,(IY+d),B" s

/-- R7153: `FD CB d 99`, `Plain("RES 3,(IY+d),C", 2)`. -/
def exec_fdcb99_RES_3_mIYd_C (s : State) : Outcome := displacedLine "RES 3,(IY+d),C" s

/-- R7154: `FD CB d 9A`, `Plain("RES 3,(IY+d),D", 2)`. -/
def exec_fdcb9A_RES_3_mIYd_D (s : State) : Outcome := displacedLine "RES 3,(IY+d),D" s

/-- R7155: `FD CB d 9B`, `Plain("RES 3,(IY+d),E", 2)`. -/
def exec_fdcb9B_RES_3_mIYd_E (s : State) : Outcome := displacedLine "RES 3,(IY+d),E" s

/-- R7156: `FD CB d 9C`, `Plain("RES 3,(IY+d),H", 2)`. -/
def exec_fdcb9C_RES_3_mIYd_H (s : State) : Outcome := displacedLine "RES 3,(IY+d),H" s

/-- R7157: `FD CB d 9D`, `Plain("RES 3,(IY+d),L", 2)`. -/
def exec_fdcb9D_RES_3_mIYd_L (s : State) : Outcome := displacedLine "RES 3,(IY+d),L" s

/-- R7158: `FD CB d 9E`, `Plain("RES 3,(IY+d)", 2)`. -/
def exec_fdcb9E_RES_3_mIYd (s : State) : Outcome := displacedLine "RES 3,(IY+d)" s

/-- R7159: `FD CB d 9F`, `Plain("RES 3,(IY+d),A", 2)`. -/
def exec_fdcb9F_RES_3_mIYd_A (s : State) : Outcome := displacedLine "RES 3,(IY+d),A" s

/-- R7160: `FD CB d A0`, `Plain("RES 4,(IY+d),B", 2)`. -/
def exec_fdcbA0_RES_4_mIYd_B (s : State) : Outcome := displacedLine "RES 4,(IY+d),B" s

/-- R7161: `FD CB d A1`, `Plain("RES 4,(IY+d),C", 2)`. -/
def exec_fdcbA1_RES_4_mIYd_C (s : State) : Outcome := displacedLine "RES 4,(IY+d),C" s

/-- R7162: `FD CB d A2`, `Plain("RES 4,(IY+d),D", 2)`. -/
def exec_fdcbA2_RES_4_mIYd_D (s : State) : Outcome := displacedLine "RES 4,(IY+d),D" s

/-- R7163: `FD CB d A3`, `Plain("RES 4,(IY+d),E", 2)`. -/
def exec_fdcbA3_RES_4_mIYd_E (s : State) : Outcome := displacedLine "RES 4,(IY+d),E" s

/-- R7164: `FD CB d A4`, `Plain("RES 4,(IY+d),H", 2)`. -/
def exec_fdcbA4_RES_4_mIYd_H (s : State) : Outcome := displacedLine "RES 4,(IY+d),H" s

/-- R7165: `FD CB d A5`, `Plain("RES 4,(IY+d),L", 2)`. -/
def exec_fdcbA5_RES_4_mIYd_L (s : State) : Outcome := displacedLine "RES 4,(IY+d),L" s

/-- R7166: `FD CB d A6`, `Plain("RES 4,(IY+d)", 2)`. -/
def exec_fdcbA6_RES_4_mIYd (s : State) : Outcome := displacedLine "RES 4,(IY+d)" s

/-- R7167: `FD CB d A7`, `Plain("RES 4,(IY+d),A", 2)`. -/
def exec_fdcbA7_RES_4_mIYd_A (s : State) : Outcome := displacedLine "RES 4,(IY+d),A" s

/-- R7168: `FD CB d A8`, `Plain("RES 5,(IY+d),B", 2)`. -/
def exec_fdcbA8_RES_5_mIYd_B (s : State) : Outcome := displacedLine "RES 5,(IY+d),B" s

/-- R7169: `FD CB d A9`, `Plain("RES 5,(IY+d),C", 2)`. -/
def exec_fdcbA9_RES_5_mIYd_C (s : State) : Outcome := displacedLine "RES 5,(IY+d),C" s

/-- R7170: `FD CB d AA`, `Plain("RES 5,(IY+d),D", 2)`. -/
def exec_fdcbAA_RES_5_mIYd_D (s : State) : Outcome := displacedLine "RES 5,(IY+d),D" s

/-- R7171: `FD CB d AB`, `Plain("RES 5,(IY+d),E", 2)`. -/
def exec_fdcbAB_RES_5_mIYd_E (s : State) : Outcome := displacedLine "RES 5,(IY+d),E" s

/-- R7172: `FD CB d AC`, `Plain("RES 5,(IY+d),H", 2)`. -/
def exec_fdcbAC_RES_5_mIYd_H (s : State) : Outcome := displacedLine "RES 5,(IY+d),H" s

/-- R7173: `FD CB d AD`, `Plain("RES 5,(IY+d),L", 2)`. -/
def exec_fdcbAD_RES_5_mIYd_L (s : State) : Outcome := displacedLine "RES 5,(IY+d),L" s

/-- R7174: `FD CB d AE`, `Plain("RES 5,(IY+d)", 2)`. -/
def exec_fdcbAE_RES_5_mIYd (s : State) : Outcome := displacedLine "RES 5,(IY+d)" s

/-- R7175: `FD CB d AF`, `Plain("RES 5,(IY+d),A", 2)`. -/
def exec_fdcbAF_RES_5_mIYd_A (s : State) : Outcome := displacedLine "RES 5,(IY+d),A" s

/-- R7176: `FD CB d B0`, `Plain("RES 6,(IY+d),B", 2)`. -/
def exec_fdcbB0_RES_6_mIYd_B (s : State) : Outcome := displacedLine "RES 6,(IY+d),B" s

/-- R7177: `FD CB d B1`, `Plain("RES 6,(IY+d),C", 2)`. -/
def exec_fdcbB1_RES_6_mIYd_C (s : State) : Outcome := displacedLine "RES 6,(IY+d),C" s

/-- R7178: `FD CB d B2`, `Plain("RES 6,(IY+d),D", 2)`. -/
def exec_fdcbB2_RES_6_mIYd_D (s : State) : Outcome := displacedLine "RES 6,(IY+d),D" s

/-- R7179: `FD CB d B3`, `Plain("RES 6,(IY+d),E", 2)`. -/
def exec_fdcbB3_RES_6_mIYd_E (s : State) : Outcome := displacedLine "RES 6,(IY+d),E" s

/-- R7180: `FD CB d B4`, `Plain("RES 6,(IY+d),H", 2)`. -/
def exec_fdcbB4_RES_6_mIYd_H (s : State) : Outcome := displacedLine "RES 6,(IY+d),H" s

/-- R7181: `FD CB d B5`, `Plain("RES 6,(IY+d),L", 2)`. -/
def exec_fdcbB5_RES_6_mIYd_L (s : State) : Outcome := displacedLine "RES 6,(IY+d),L" s

/-- R7182: `FD CB d B6`, `Plain("RES 6,(IY+d)", 2)`. -/
def exec_fdcbB6_RES_6_mIYd (s : State) : Outcome := displacedLine "RES 6,(IY+d)" s

/-- R7183: `FD CB d B7`, `Plain("RES 6,(IY+d),A", 2)`. -/
def exec_fdcbB7_RES_6_mIYd_A (s : State) : Outcome := displacedLine "RES 6,(IY+d),A" s

/-- R7184: `FD CB d B8`, `Plain("RES 7,(IY+d),B", 2)`. -/
def exec_fdcbB8_RES_7_mIYd_B (s : State) : Outcome := displacedLine "RES 7,(IY+d),B" s

/-- R7185: `FD CB d B9`, `Plain("RES 7,(IY+d),C", 2)`. -/
def exec_fdcbB9_RES_7_mIYd_C (s : State) : Outcome := displacedLine "RES 7,(IY+d),C" s

/-- R7186: `FD CB d BA`, `Plain("RES 7,(IY+d),D", 2)`. -/
def exec_fdcbBA_RES_7_mIYd_D (s : State) : Outcome := displacedLine "RES 7,(IY+d),D" s

/-- R7187: `FD CB d BB`, `Plain("RES 7,(IY+d),E", 2)`. -/
def exec_fdcbBB_RES_7_mIYd_E (s : State) : Outcome := displacedLine "RES 7,(IY+d),E" s

/-- R7188: `FD CB d BC`, `Plain("RES 7,(IY+d),H", 2)`. -/
def exec_fdcbBC_RES_7_mIYd_H (s : State) : Outcome := displacedLine "RES 7,(IY+d),H" s

/-- R7189: `FD CB d BD`, `Plain("RES 7,(IY+d),L", 2)`. -/
def exec_fdcbBD_RES_7_mIYd_L (s : State) : Outcome := displacedLine "RES 7,(IY+d),L" s

/-- R7190: `FD CB d BE`, `Plain("RES 7,(IY+d)", 2)`. -/
def exec_fdcbBE_RES_7_mIYd (s : State) : Outcome := displacedLine "RES 7,(IY+d)" s

/-- R7191: `FD CB d BF`, `Plain("RES 7,(IY+d),A", 2)`. -/
def exec_fdcbBF_RES_7_mIYd_A (s : State) : Outcome := displacedLine "RES 7,(IY+d),A" s

/-- R7192: `FD CB d C0`, `Plain("SET 0,(IY+d),B", 2)`. -/
def exec_fdcbC0_SET_0_mIYd_B (s : State) : Outcome := displacedLine "SET 0,(IY+d),B" s

/-- R7193: `FD CB d C1`, `Plain("SET 0,(IY+d),C", 2)`. -/
def exec_fdcbC1_SET_0_mIYd_C (s : State) : Outcome := displacedLine "SET 0,(IY+d),C" s

/-- R7194: `FD CB d C2`, `Plain("SET 0,(IY+d),D", 2)`. -/
def exec_fdcbC2_SET_0_mIYd_D (s : State) : Outcome := displacedLine "SET 0,(IY+d),D" s

/-- R7195: `FD CB d C3`, `Plain("SET 0,(IY+d),E", 2)`. -/
def exec_fdcbC3_SET_0_mIYd_E (s : State) : Outcome := displacedLine "SET 0,(IY+d),E" s

/-- R7196: `FD CB d C4`, `Plain("SET 0,(IY+d),H", 2)`. -/
def exec_fdcbC4_SET_0_mIYd_H (s : State) : Outcome := displacedLine "SET 0,(IY+d),H" s

/-- R7197: `FD CB d C5`, `Plain("SET 0,(IY+d),L", 2)`. -/
def exec_fdcbC5_SET_0_mIYd_L (s : State) : Outcome := displacedLine "SET 0,(IY+d),L" s

/-- R7198: `FD CB d C6`, `Plain("SET 0,(IY+d)", 2)`. -/
def exec_fdcbC6_SET_0_mIYd (s : State) : Outcome := displacedLine "SET 0,(IY+d)" s

/-- R7199: `FD CB d C7`, `Plain("SET 0,(IY+d),A", 2)`. -/
def exec_fdcbC7_SET_0_mIYd_A (s : State) : Outcome := displacedLine "SET 0,(IY+d),A" s

/-- R7200: `FD CB d C8`, `Plain("SET 1,(IY+d),B", 2)`. -/
def exec_fdcbC8_SET_1_mIYd_B (s : State) : Outcome := displacedLine "SET 1,(IY+d),B" s

/-- R7201: `FD CB d C9`, `Plain("SET 1,(IY+d),C", 2)`. -/
def exec_fdcbC9_SET_1_mIYd_C (s : State) : Outcome := displacedLine "SET 1,(IY+d),C" s

/-- R7202: `FD CB d CA`, `Plain("SET 1,(IY+d),D", 2)`. -/
def exec_fdcbCA_SET_1_mIYd_D (s : State) : Outcome := displacedLine "SET 1,(IY+d),D" s

/-- R7203: `FD CB d CB`, `Plain("SET 1,(IY+d),E", 2)`. -/
def exec_fdcbCB_SET_1_mIYd_E (s : State) : Outcome := displacedLine "SET 1,(IY+d),E" s

/-- R7204: `FD CB d CC`, `Plain("SET 1,(IY+d),H", 2)`. -/
def exec_fdcbCC_SET_1_mIYd_H (s : State) : Outcome := displacedLine "SET 1,(IY+d),H" s

/-- R7205: `FD CB d CD`, `Plain("SET 1,(IY+d),L", 2)`. -/
def exec_fdcbCD_SET_1_mIYd_L (s : State) : Outcome := displacedLine "SET 1,(IY+d),L" s

/-- R7206: `FD CB d CE`, `Plain("SET 1,(IY+d)", 2)`. -/
def exec_fdcbCE_SET_1_mIYd (s : State) : Outcome := displacedLine "SET 1,(IY+d)" s

/-- R7207: `FD CB d CF`, `Plain("SET 1,(IY+d),A", 2)`. -/
def exec_fdcbCF_SET_1_mIYd_A (s : State) : Outcome := displacedLine "SET 1,(IY+d),A" s

/-- R7208: `FD CB d D0`, `Plain("SET 2,(IY+d),B", 2)`. -/
def exec_fdcbD0_SET_2_mIYd_B (s : State) : Outcome := displacedLine "SET 2,(IY+d),B" s

/-- R7209: `FD CB d D1`, `Plain("SET 2,(IY+d),C", 2)`. -/
def exec_fdcbD1_SET_2_mIYd_C (s : State) : Outcome := displacedLine "SET 2,(IY+d),C" s

/-- R7210: `FD CB d D2`, `Plain("SET 2,(IY+d),D", 2)`. -/
def exec_fdcbD2_SET_2_mIYd_D (s : State) : Outcome := displacedLine "SET 2,(IY+d),D" s

/-- R7211: `FD CB d D3`, `Plain("SET 2,(IY+d),E", 2)`. -/
def exec_fdcbD3_SET_2_mIYd_E (s : State) : Outcome := displacedLine "SET 2,(IY+d),E" s

/-- R7212: `FD CB d D4`, `Plain("SET 2,(IY+d),H", 2)`. -/
def exec_fdcbD4_SET_2_mIYd_H (s : State) : Outcome := displacedLine "SET 2,(IY+d),H" s

/-- R7213: `FD CB d D5`, `Plain("SET 2,(IY+d),L", 2)`. -/
def exec_fdcbD5_SET_2_mIYd_L (s : State) : Outcome := displacedLine "SET 2,(IY+d),L" s

/-- R7214: `FD CB d D6`, `Plain("SET 2,(IY+d)", 2)`. -/
def exec_fdcbD6_SET_2_mIYd (s : State) : Outcome := displacedLine "SET 2,(IY+d)" s

/-- R7215: `FD CB d D7`, `Plain("SET 2,(IY+d),A", 2)`. -/
def exec_fdcbD7_SET_2_mIYd_A (s : State) : Outcome := displacedLine "SET 2,(IY+d),A" s

/-- R7216: `FD CB d D8`, `Plain("SET 3,(IY+d),B", 2)`. -/
def exec_fdcbD8_SET_3_mIYd_B (s : State) : Outcome := displacedLine "SET 3,(IY+d),B" s

/-- R7217: `FD CB d D9`, `Plain("SET 3,(IY+d),C", 2)`. -/
def exec_fdcbD9_SET_3_mIYd_C (s : State) : Outcome := displacedLine "SET 3,(IY+d),C" s

/-- R7218: `FD CB d DA`, `Plain("SET 3,(IY+d),D", 2)`. -/
def exec_fdcbDA_SET_3_mIYd_D (s : State) : Outcome := displacedLine "SET 3,(IY+d),D" s

/-- R7219: `FD CB d DB`, `Plain("SET 3,(IY+d),E", 2)`. -/
def exec_fdcbDB_SET_3_mIYd_E (s : State) : Outcome := displacedLine "SET 3,(IY+d),E" s

/-- R7220: `FD CB d DC`, `Plain("SET 3,(IY+d),H", 2)`. -/
def exec_fdcbDC_SET_3_mIYd_H (s : State) : Outcome := displacedLine "SET 3,(IY+d),H" s

/-- R7221: `FD CB d DD`, `Plain("SET 3,(IY+d),L", 2)`. -/
def exec_fdcbDD_SET_3_mIYd_L (s : State) : Outcome := displacedLine "SET 3,(IY+d),L" s

/-- R7222: `FD CB d DE`, `Plain("SET 3,(IY+d)", 2)`. -/
def exec_fdcbDE_SET_3_mIYd (s : State) : Outcome := displacedLine "SET 3,(IY+d)" s

/-- R7223: `FD CB d DF`, `Plain("SET 3,(IY+d),A", 2)`. -/
def exec_fdcbDF_SET_3_mIYd_A (s : State) : Outcome := displacedLine "SET 3,(IY+d),A" s

/-- R7224: `FD CB d E0`, `Plain("SET 4,(IY+d),B", 2)`. -/
def exec_fdcbE0_SET_4_mIYd_B (s : State) : Outcome := displacedLine "SET 4,(IY+d),B" s

/-- R7225: `FD CB d E1`, `Plain("SET 4,(IY+d),C", 2)`. -/
def exec_fdcbE1_SET_4_mIYd_C (s : State) : Outcome := displacedLine "SET 4,(IY+d),C" s

/-- R7226: `FD CB d E2`, `Plain("SET 4,(IY+d),D", 2)`. -/
def exec_fdcbE2_SET_4_mIYd_D (s : State) : Outcome := displacedLine "SET 4,(IY+d),D" s

/-- R7227: `FD CB d E3`, `Plain("SET 4,(IY+d),E", 2)`. -/
def exec_fdcbE3_SET_4_mIYd_E (s : State) : Outcome := displacedLine "SET 4,(IY+d),E" s

/-- R7228: `FD CB d E4`, `Plain("SET 4,(IY+d),H", 2)`. -/
def exec_fdcbE4_SET_4_mIYd_H (s : State) : Outcome := displacedLine "SET 4,(IY+d),H" s

/-- R7229: `FD CB d E5`, `Plain("SET 4,(IY+d),L", 2)`. -/
def exec_fdcbE5_SET_4_mIYd_L (s : State) : Outcome := displacedLine "SET 4,(IY+d),L" s

/-- R7230: `FD CB d E6`, `Plain("SET 4,(IY+d)", 2)`. -/
def exec_fdcbE6_SET_4_mIYd (s : State) : Outcome := displacedLine "SET 4,(IY+d)" s

/-- R7231: `FD CB d E7`, `Plain("SET 4,(IY+d),A", 2)`. -/
def exec_fdcbE7_SET_4_mIYd_A (s : State) : Outcome := displacedLine "SET 4,(IY+d),A" s

/-- R7232: `FD CB d E8`, `Plain("SET 5,(IY+d),B", 2)`. -/
def exec_fdcbE8_SET_5_mIYd_B (s : State) : Outcome := displacedLine "SET 5,(IY+d),B" s

/-- R7233: `FD CB d E9`, `Plain("SET 5,(IY+d),C", 2)`. -/
def exec_fdcbE9_SET_5_mIYd_C (s : State) : Outcome := displacedLine "SET 5,(IY+d),C" s

/-- R7234: `FD CB d EA`, `Plain("SET 5,(IY+d),D", 2)`. -/
def exec_fdcbEA_SET_5_mIYd_D (s : State) : Outcome := displacedLine "SET 5,(IY+d),D" s

/-- R7235: `FD CB d EB`, `Plain("SET 5,(IY+d),E", 2)`. -/
def exec_fdcbEB_SET_5_mIYd_E (s : State) : Outcome := displacedLine "SET 5,(IY+d),E" s

/-- R7236: `FD CB d EC`, `Plain("SET 5,(IY+d),H", 2)`. -/
def exec_fdcbEC_SET_5_mIYd_H (s : State) : Outcome := displacedLine "SET 5,(IY+d),H" s

/-- R7237: `FD CB d ED`, `Plain("SET 5,(IY+d),L", 2)`. -/
def exec_fdcbED_SET_5_mIYd_L (s : State) : Outcome := displacedLine "SET 5,(IY+d),L" s

/-- R7238: `FD CB d EE`, `Plain("SET 5,(IY+d)", 2)`. -/
def exec_fdcbEE_SET_5_mIYd (s : State) : Outcome := displacedLine "SET 5,(IY+d)" s

/-- R7239: `FD CB d EF`, `Plain("SET 5,(IY+d),A", 2)`. -/
def exec_fdcbEF_SET_5_mIYd_A (s : State) : Outcome := displacedLine "SET 5,(IY+d),A" s

/-- R7240: `FD CB d F0`, `Plain("SET 6,(IY+d),B", 2)`. -/
def exec_fdcbF0_SET_6_mIYd_B (s : State) : Outcome := displacedLine "SET 6,(IY+d),B" s

/-- R7241: `FD CB d F1`, `Plain("SET 6,(IY+d),C", 2)`. -/
def exec_fdcbF1_SET_6_mIYd_C (s : State) : Outcome := displacedLine "SET 6,(IY+d),C" s

/-- R7242: `FD CB d F2`, `Plain("SET 6,(IY+d),D", 2)`. -/
def exec_fdcbF2_SET_6_mIYd_D (s : State) : Outcome := displacedLine "SET 6,(IY+d),D" s

/-- R7243: `FD CB d F3`, `Plain("SET 6,(IY+d),E", 2)`. -/
def exec_fdcbF3_SET_6_mIYd_E (s : State) : Outcome := displacedLine "SET 6,(IY+d),E" s

/-- R7244: `FD CB d F4`, `Plain("SET 6,(IY+d),H", 2)`. -/
def exec_fdcbF4_SET_6_mIYd_H (s : State) : Outcome := displacedLine "SET 6,(IY+d),H" s

/-- R7245: `FD CB d F5`, `Plain("SET 6,(IY+d),L", 2)`. -/
def exec_fdcbF5_SET_6_mIYd_L (s : State) : Outcome := displacedLine "SET 6,(IY+d),L" s

/-- R7246: `FD CB d F6`, `Plain("SET 6,(IY+d)", 2)`. -/
def exec_fdcbF6_SET_6_mIYd (s : State) : Outcome := displacedLine "SET 6,(IY+d)" s

/-- R7247: `FD CB d F7`, `Plain("SET 6,(IY+d),A", 2)`. -/
def exec_fdcbF7_SET_6_mIYd_A (s : State) : Outcome := displacedLine "SET 6,(IY+d),A" s

/-- R7248: `FD CB d F8`, `Plain("SET 7,(IY+d),B", 2)`. -/
def exec_fdcbF8_SET_7_mIYd_B (s : State) : Outcome := displacedLine "SET 7,(IY+d),B" s

/-- R7249: `FD CB d F9`, `Plain("SET 7,(IY+d),C", 2)`. -/
def exec_fdcbF9_SET_7_mIYd_C (s : State) : Outcome := displacedLine "SET 7,(IY+d),C" s

/-- R7250: `FD CB d FA`, `Plain("SET 7,(IY+d),D", 2)`. -/
def exec_fdcbFA_SET_7_mIYd_D (s : State) : Outcome := displacedLine "SET 7,(IY+d),D" s

/-- R7251: `FD CB d FB`, `Plain("SET 7,(IY+d),E", 2)`. -/
def exec_fdcbFB_SET_7_mIYd_E (s : State) : Outcome := displacedLine "SET 7,(IY+d),E" s

/-- R7252: `FD CB d FC`, `Plain("SET 7,(IY+d),H", 2)`. -/
def exec_fdcbFC_SET_7_mIYd_H (s : State) : Outcome := displacedLine "SET 7,(IY+d),H" s

/-- R7253: `FD CB d FD`, `Plain("SET 7,(IY+d),L", 2)`. -/
def exec_fdcbFD_SET_7_mIYd_L (s : State) : Outcome := displacedLine "SET 7,(IY+d),L" s

/-- R7254: `FD CB d FE`, `Plain("SET 7,(IY+d)", 2)`. -/
def exec_fdcbFE_SET_7_mIYd (s : State) : Outcome := displacedLine "SET 7,(IY+d)" s

/-- R7255: `FD CB d FF`, `Plain("SET 7,(IY+d),A", 2)`. -/
def exec_fdcbFF_SET_7_mIYd_A (s : State) : Outcome := displacedLine "SET 7,(IY+d),A" s

end Sys2Proof.Machine
end

