-- ==== Sys2Proof/Machine/Primary.lean ====
section
/-! DEFINITION. The meanings of the Primary table: rules R1000 to R1255 of 41_primary_00-7F.md and 41_primary_80-FF.md, in index order. Each docstring gives the rule, the bytes in stream order and the descriptor. -/

namespace Sys2Proof.Machine

/-- R1000: `00`, `Plain("NOP", 1)`. -/
def exec_p00_NOP (s : State) : Outcome := primaryLine "NOP" 1 s

/-- R1001: `01 lo hi`, `Plain("LD BC,nn", 3)`. -/
def exec_p01_LD_BC_nn (s : State) : Outcome := primaryLine "LD BC,nn" 3 s

/-- R1002: `02`, `Plain("LD (BC),A", 1)`. -/
def exec_p02_LD_mBC_A (s : State) : Outcome := primaryLine "LD (BC),A" 1 s

/-- R1003: `03`, `Plain("INC BC", 1)`. -/
def exec_p03_INC_BC (s : State) : Outcome := primaryLine "INC BC" 1 s

/-- R1004: `04`, `Plain("INC B", 1)`. -/
def exec_p04_INC_B (s : State) : Outcome := primaryLine "INC B" 1 s

/-- R1005: `05`, `Plain("DEC B", 1)`. -/
def exec_p05_DEC_B (s : State) : Outcome := primaryLine "DEC B" 1 s

/-- R1006: `06 n`, `Plain("LD B,n", 2)`. -/
def exec_p06_LD_B_n (s : State) : Outcome := primaryLine "LD B,n" 2 s

/-- R1007: `07`, `Plain("RLCA", 1)`. -/
def exec_p07_RLCA (s : State) : Outcome := primaryLine "RLCA" 1 s

/-- R1008: `08`, `Plain("EX AF,AF'", 1)`. -/
def exec_p08_EX_AF_AFx (s : State) : Outcome := primaryLine "EX AF,AF'" 1 s

/-- R1009: `09`, `Plain("ADD HL,BC", 1)`. -/
def exec_p09_ADD_HL_BC (s : State) : Outcome := primaryLine "ADD HL,BC" 1 s

/-- R1010: `0A`, `Plain("LD A,(BC)", 1)`. -/
def exec_p0A_LD_A_mBC (s : State) : Outcome := primaryLine "LD A,(BC)" 1 s

/-- R1011: `0B`, `Plain("DEC BC", 1)`. -/
def exec_p0B_DEC_BC (s : State) : Outcome := primaryLine "DEC BC" 1 s

/-- R1012: `0C`, `Plain("INC C", 1)`. -/
def exec_p0C_INC_C (s : State) : Outcome := primaryLine "INC C" 1 s

/-- R1013: `0D`, `Plain("DEC C", 1)`. -/
def exec_p0D_DEC_C (s : State) : Outcome := primaryLine "DEC C" 1 s

/-- R1014: `0E n`, `Plain("LD C,n", 2)`. -/
def exec_p0E_LD_C_n (s : State) : Outcome := primaryLine "LD C,n" 2 s

/-- R1015: `0F`, `Plain("RRCA", 1)`. -/
def exec_p0F_RRCA (s : State) : Outcome := primaryLine "RRCA" 1 s

/-- R1016: `10 n`, `Plain("DJNZ e", 2)`. -/
def exec_p10_DJNZ_e (s : State) : Outcome := primaryLine "DJNZ e" 2 s

/-- R1017: `11 lo hi`, `Plain("LD DE,nn", 3)`. -/
def exec_p11_LD_DE_nn (s : State) : Outcome := primaryLine "LD DE,nn" 3 s

/-- R1018: `12`, `Plain("LD (DE),A", 1)`. -/
def exec_p12_LD_mDE_A (s : State) : Outcome := primaryLine "LD (DE),A" 1 s

/-- R1019: `13`, `Plain("INC DE", 1)`. -/
def exec_p13_INC_DE (s : State) : Outcome := primaryLine "INC DE" 1 s

/-- R1020: `14`, `Plain("INC D", 1)`. -/
def exec_p14_INC_D (s : State) : Outcome := primaryLine "INC D" 1 s

/-- R1021: `15`, `Plain("DEC D", 1)`. -/
def exec_p15_DEC_D (s : State) : Outcome := primaryLine "DEC D" 1 s

/-- R1022: `16 n`, `Plain("LD D,n", 2)`. -/
def exec_p16_LD_D_n (s : State) : Outcome := primaryLine "LD D,n" 2 s

/-- R1023: `17`, `Plain("RLA", 1)`. -/
def exec_p17_RLA (s : State) : Outcome := primaryLine "RLA" 1 s

/-- R1024: `18 n`, `Plain("JR e", 2)`. -/
def exec_p18_JR_e (s : State) : Outcome := primaryLine "JR e" 2 s

/-- R1025: `19`, `Plain("ADD HL,DE", 1)`. -/
def exec_p19_ADD_HL_DE (s : State) : Outcome := primaryLine "ADD HL,DE" 1 s

/-- R1026: `1A`, `Plain("LD A,(DE)", 1)`. -/
def exec_p1A_LD_A_mDE (s : State) : Outcome := primaryLine "LD A,(DE)" 1 s

/-- R1027: `1B`, `Plain("DEC DE", 1)`. -/
def exec_p1B_DEC_DE (s : State) : Outcome := primaryLine "DEC DE" 1 s

/-- R1028: `1C`, `Plain("INC E", 1)`. -/
def exec_p1C_INC_E (s : State) : Outcome := primaryLine "INC E" 1 s

/-- R1029: `1D`, `Plain("DEC E", 1)`. -/
def exec_p1D_DEC_E (s : State) : Outcome := primaryLine "DEC E" 1 s

/-- R1030: `1E n`, `Plain("LD E,n", 2)`. -/
def exec_p1E_LD_E_n (s : State) : Outcome := primaryLine "LD E,n" 2 s

/-- R1031: `1F`, `Plain("RRA", 1)`. -/
def exec_p1F_RRA (s : State) : Outcome := primaryLine "RRA" 1 s

/-- R1032: `20 n`, `Plain("JR NZ,e", 2)`. -/
def exec_p20_JR_NZ_e (s : State) : Outcome := primaryLine "JR NZ,e" 2 s

/-- R1033: `21 lo hi`, `Plain("LD HL,nn", 3)`. -/
def exec_p21_LD_HL_nn (s : State) : Outcome := primaryLine "LD HL,nn" 3 s

/-- R1034: `22 lo hi`, `Plain("LD (nn),HL", 3)`. -/
def exec_p22_LD_mnn_HL (s : State) : Outcome := primaryLine "LD (nn),HL" 3 s

/-- R1035: `23`, `Plain("INC HL", 1)`. -/
def exec_p23_INC_HL (s : State) : Outcome := primaryLine "INC HL" 1 s

/-- R1036: `24`, `Plain("INC H", 1)`. -/
def exec_p24_INC_H (s : State) : Outcome := primaryLine "INC H" 1 s

/-- R1037: `25`, `Plain("DEC H", 1)`. -/
def exec_p25_DEC_H (s : State) : Outcome := primaryLine "DEC H" 1 s

/-- R1038: `26 n`, `Plain("LD H,n", 2)`. -/
def exec_p26_LD_H_n (s : State) : Outcome := primaryLine "LD H,n" 2 s

/-- R1039: `27`, `Plain("DAA", 1)`. -/
def exec_p27_DAA (s : State) : Outcome := primaryLine "DAA" 1 s

/-- R1040: `28 n`, `Plain("JR Z,e", 2)`. -/
def exec_p28_JR_Z_e (s : State) : Outcome := primaryLine "JR Z,e" 2 s

/-- R1041: `29`, `Plain("ADD HL,HL", 1)`. -/
def exec_p29_ADD_HL_HL (s : State) : Outcome := primaryLine "ADD HL,HL" 1 s

/-- R1042: `2A lo hi`, `Plain("LD HL,(nn)", 3)`. -/
def exec_p2A_LD_HL_mnn (s : State) : Outcome := primaryLine "LD HL,(nn)" 3 s

/-- R1043: `2B`, `Plain("DEC HL", 1)`. -/
def exec_p2B_DEC_HL (s : State) : Outcome := primaryLine "DEC HL" 1 s

/-- R1044: `2C`, `Plain("INC L", 1)`. -/
def exec_p2C_INC_L (s : State) : Outcome := primaryLine "INC L" 1 s

/-- R1045: `2D`, `Plain("DEC L", 1)`. -/
def exec_p2D_DEC_L (s : State) : Outcome := primaryLine "DEC L" 1 s

/-- R1046: `2E n`, `Plain("LD L,n", 2)`. -/
def exec_p2E_LD_L_n (s : State) : Outcome := primaryLine "LD L,n" 2 s

/-- R1047: `2F`, `Plain("CPL", 1)`. -/
def exec_p2F_CPL (s : State) : Outcome := primaryLine "CPL" 1 s

/-- R1048: `30 n`, `Plain("JR NC,e", 2)`. -/
def exec_p30_JR_NC_e (s : State) : Outcome := primaryLine "JR NC,e" 2 s

/-- R1049: `31 lo hi`, `Plain("LD SP,nn", 3)`. -/
def exec_p31_LD_SP_nn (s : State) : Outcome := primaryLine "LD SP,nn" 3 s

/-- R1050: `32 lo hi`, `Plain("LD (nn),A", 3)`. -/
def exec_p32_LD_mnn_A (s : State) : Outcome := primaryLine "LD (nn),A" 3 s

/-- R1051: `33`, `Plain("INC SP", 1)`. -/
def exec_p33_INC_SP (s : State) : Outcome := primaryLine "INC SP" 1 s

/-- R1052: `34`, `Plain("INC (HL)", 1)`. -/
def exec_p34_INC_mHL (s : State) : Outcome := primaryLine "INC (HL)" 1 s

/-- R1053: `35`, `Plain("DEC (HL)", 1)`. -/
def exec_p35_DEC_mHL (s : State) : Outcome := primaryLine "DEC (HL)" 1 s

/-- R1054: `36 n`, `Plain("LD (HL),n", 2)`. -/
def exec_p36_LD_mHL_n (s : State) : Outcome := primaryLine "LD (HL),n" 2 s

/-- R1055: `37`, `Plain("SCF", 1)`. -/
def exec_p37_SCF (s : State) : Outcome := primaryLine "SCF" 1 s

/-- R1056: `38 n`, `Plain("JR C,e", 2)`. -/
def exec_p38_JR_C_e (s : State) : Outcome := primaryLine "JR C,e" 2 s

/-- R1057: `39`, `Plain("ADD HL,SP", 1)`. -/
def exec_p39_ADD_HL_SP (s : State) : Outcome := primaryLine "ADD HL,SP" 1 s

/-- R1058: `3A lo hi`, `Plain("LD A,(nn)", 3)`. -/
def exec_p3A_LD_A_mnn (s : State) : Outcome := primaryLine "LD A,(nn)" 3 s

/-- R1059: `3B`, `Plain("DEC SP", 1)`. -/
def exec_p3B_DEC_SP (s : State) : Outcome := primaryLine "DEC SP" 1 s

/-- R1060: `3C`, `Plain("INC A", 1)`. -/
def exec_p3C_INC_A (s : State) : Outcome := primaryLine "INC A" 1 s

/-- R1061: `3D`, `Plain("DEC A", 1)`. -/
def exec_p3D_DEC_A (s : State) : Outcome := primaryLine "DEC A" 1 s

/-- R1062: `3E n`, `Plain("LD A,n", 2)`. -/
def exec_p3E_LD_A_n (s : State) : Outcome := primaryLine "LD A,n" 2 s

/-- R1063: `3F`, `Plain("CCF", 1)`. -/
def exec_p3F_CCF (s : State) : Outcome := primaryLine "CCF" 1 s

/-- R1064: `40`, `Plain("LD B,B", 1)`. -/
def exec_p40_LD_B_B (s : State) : Outcome := primaryLine "LD B,B" 1 s

/-- R1065: `41`, `Plain("LD B,C", 1)`. -/
def exec_p41_LD_B_C (s : State) : Outcome := primaryLine "LD B,C" 1 s

/-- R1066: `42`, `Plain("LD B,D", 1)`. -/
def exec_p42_LD_B_D (s : State) : Outcome := primaryLine "LD B,D" 1 s

/-- R1067: `43`, `Plain("LD B,E", 1)`. -/
def exec_p43_LD_B_E (s : State) : Outcome := primaryLine "LD B,E" 1 s

/-- R1068: `44`, `Plain("LD B,H", 1)`. -/
def exec_p44_LD_B_H (s : State) : Outcome := primaryLine "LD B,H" 1 s

/-- R1069: `45`, `Plain("LD B,L", 1)`. -/
def exec_p45_LD_B_L (s : State) : Outcome := primaryLine "LD B,L" 1 s

/-- R1070: `46`, `Plain("LD B,(HL)", 1)`. -/
def exec_p46_LD_B_mHL (s : State) : Outcome := primaryLine "LD B,(HL)" 1 s

/-- R1071: `47`, `Plain("LD B,A", 1)`. -/
def exec_p47_LD_B_A (s : State) : Outcome := primaryLine "LD B,A" 1 s

/-- R1072: `48`, `Plain("LD C,B", 1)`. -/
def exec_p48_LD_C_B (s : State) : Outcome := primaryLine "LD C,B" 1 s

/-- R1073: `49`, `Plain("LD C,C", 1)`. -/
def exec_p49_LD_C_C (s : State) : Outcome := primaryLine "LD C,C" 1 s

/-- R1074: `4A`, `Plain("LD C,D", 1)`. -/
def exec_p4A_LD_C_D (s : State) : Outcome := primaryLine "LD C,D" 1 s

/-- R1075: `4B`, `Plain("LD C,E", 1)`. -/
def exec_p4B_LD_C_E (s : State) : Outcome := primaryLine "LD C,E" 1 s

/-- R1076: `4C`, `Plain("LD C,H", 1)`. -/
def exec_p4C_LD_C_H (s : State) : Outcome := primaryLine "LD C,H" 1 s

/-- R1077: `4D`, `Plain("LD C,L", 1)`. -/
def exec_p4D_LD_C_L (s : State) : Outcome := primaryLine "LD C,L" 1 s

/-- R1078: `4E`, `Plain("LD C,(HL)", 1)`. -/
def exec_p4E_LD_C_mHL (s : State) : Outcome := primaryLine "LD C,(HL)" 1 s

/-- R1079: `4F`, `Plain("LD C,A", 1)`. -/
def exec_p4F_LD_C_A (s : State) : Outcome := primaryLine "LD C,A" 1 s

/-- R1080: `50`, `Plain("LD D,B", 1)`. -/
def exec_p50_LD_D_B (s : State) : Outcome := primaryLine "LD D,B" 1 s

/-- R1081: `51`, `Plain("LD D,C", 1)`. -/
def exec_p51_LD_D_C (s : State) : Outcome := primaryLine "LD D,C" 1 s

/-- R1082: `52`, `Plain("LD D,D", 1)`. -/
def exec_p52_LD_D_D (s : State) : Outcome := primaryLine "LD D,D" 1 s

/-- R1083: `53`, `Plain("LD D,E", 1)`. -/
def exec_p53_LD_D_E (s : State) : Outcome := primaryLine "LD D,E" 1 s

/-- R1084: `54`, `Plain("LD D,H", 1)`. -/
def exec_p54_LD_D_H (s : State) : Outcome := primaryLine "LD D,H" 1 s

/-- R1085: `55`, `Plain("LD D,L", 1)`. -/
def exec_p55_LD_D_L (s : State) : Outcome := primaryLine "LD D,L" 1 s

/-- R1086: `56`, `Plain("LD D,(HL)", 1)`. -/
def exec_p56_LD_D_mHL (s : State) : Outcome := primaryLine "LD D,(HL)" 1 s

/-- R1087: `57`, `Plain("LD D,A", 1)`. -/
def exec_p57_LD_D_A (s : State) : Outcome := primaryLine "LD D,A" 1 s

/-- R1088: `58`, `Plain("LD E,B", 1)`. -/
def exec_p58_LD_E_B (s : State) : Outcome := primaryLine "LD E,B" 1 s

/-- R1089: `59`, `Plain("LD E,C", 1)`. -/
def exec_p59_LD_E_C (s : State) : Outcome := primaryLine "LD E,C" 1 s

/-- R1090: `5A`, `Plain("LD E,D", 1)`. -/
def exec_p5A_LD_E_D (s : State) : Outcome := primaryLine "LD E,D" 1 s

/-- R1091: `5B`, `Plain("LD E,E", 1)`. -/
def exec_p5B_LD_E_E (s : State) : Outcome := primaryLine "LD E,E" 1 s

/-- R1092: `5C`, `Plain("LD E,H", 1)`. -/
def exec_p5C_LD_E_H (s : State) : Outcome := primaryLine "LD E,H" 1 s

/-- R1093: `5D`, `Plain("LD E,L", 1)`. -/
def exec_p5D_LD_E_L (s : State) : Outcome := primaryLine "LD E,L" 1 s

/-- R1094: `5E`, `Plain("LD E,(HL)", 1)`. -/
def exec_p5E_LD_E_mHL (s : State) : Outcome := primaryLine "LD E,(HL)" 1 s

/-- R1095: `5F`, `Plain("LD E,A", 1)`. -/
def exec_p5F_LD_E_A (s : State) : Outcome := primaryLine "LD E,A" 1 s

/-- R1096: `60`, `Plain("LD H,B", 1)`. -/
def exec_p60_LD_H_B (s : State) : Outcome := primaryLine "LD H,B" 1 s

/-- R1097: `61`, `Plain("LD H,C", 1)`. -/
def exec_p61_LD_H_C (s : State) : Outcome := primaryLine "LD H,C" 1 s

/-- R1098: `62`, `Plain("LD H,D", 1)`. -/
def exec_p62_LD_H_D (s : State) : Outcome := primaryLine "LD H,D" 1 s

/-- R1099: `63`, `Plain("LD H,E", 1)`. -/
def exec_p63_LD_H_E (s : State) : Outcome := primaryLine "LD H,E" 1 s

/-- R1100: `64`, `Plain("LD H,H", 1)`. -/
def exec_p64_LD_H_H (s : State) : Outcome := primaryLine "LD H,H" 1 s

/-- R1101: `65`, `Plain("LD H,L", 1)`. -/
def exec_p65_LD_H_L (s : State) : Outcome := primaryLine "LD H,L" 1 s

/-- R1102: `66`, `Plain("LD H,(HL)", 1)`. -/
def exec_p66_LD_H_mHL (s : State) : Outcome := primaryLine "LD H,(HL)" 1 s

/-- R1103: `67`, `Plain("LD H,A", 1)`. -/
def exec_p67_LD_H_A (s : State) : Outcome := primaryLine "LD H,A" 1 s

/-- R1104: `68`, `Plain("LD L,B", 1)`. -/
def exec_p68_LD_L_B (s : State) : Outcome := primaryLine "LD L,B" 1 s

/-- R1105: `69`, `Plain("LD L,C", 1)`. -/
def exec_p69_LD_L_C (s : State) : Outcome := primaryLine "LD L,C" 1 s

/-- R1106: `6A`, `Plain("LD L,D", 1)`. -/
def exec_p6A_LD_L_D (s : State) : Outcome := primaryLine "LD L,D" 1 s

/-- R1107: `6B`, `Plain("LD L,E", 1)`. -/
def exec_p6B_LD_L_E (s : State) : Outcome := primaryLine "LD L,E" 1 s

/-- R1108: `6C`, `Plain("LD L,H", 1)`. -/
def exec_p6C_LD_L_H (s : State) : Outcome := primaryLine "LD L,H" 1 s

/-- R1109: `6D`, `Plain("LD L,L", 1)`. -/
def exec_p6D_LD_L_L (s : State) : Outcome := primaryLine "LD L,L" 1 s

/-- R1110: `6E`, `Plain("LD L,(HL)", 1)`. -/
def exec_p6E_LD_L_mHL (s : State) : Outcome := primaryLine "LD L,(HL)" 1 s

/-- R1111: `6F`, `Plain("LD L,A", 1)`. -/
def exec_p6F_LD_L_A (s : State) : Outcome := primaryLine "LD L,A" 1 s

/-- R1112: `70`, `Plain("LD (HL),B", 1)`. -/
def exec_p70_LD_mHL_B (s : State) : Outcome := primaryLine "LD (HL),B" 1 s

/-- R1113: `71`, `Plain("LD (HL),C", 1)`. -/
def exec_p71_LD_mHL_C (s : State) : Outcome := primaryLine "LD (HL),C" 1 s

/-- R1114: `72`, `Plain("LD (HL),D", 1)`. -/
def exec_p72_LD_mHL_D (s : State) : Outcome := primaryLine "LD (HL),D" 1 s

/-- R1115: `73`, `Plain("LD (HL),E", 1)`. -/
def exec_p73_LD_mHL_E (s : State) : Outcome := primaryLine "LD (HL),E" 1 s

/-- R1116: `74`, `Plain("LD (HL),H", 1)`. -/
def exec_p74_LD_mHL_H (s : State) : Outcome := primaryLine "LD (HL),H" 1 s

/-- R1117: `75`, `Plain("LD (HL),L", 1)`. -/
def exec_p75_LD_mHL_L (s : State) : Outcome := primaryLine "LD (HL),L" 1 s

/-- R1118: `76`, `Plain("HALT", 1)`. -/
def exec_p76_HALT (s : State) : Outcome := primaryLine "HALT" 1 s

/-- R1119: `77`, `Plain("LD (HL),A", 1)`. -/
def exec_p77_LD_mHL_A (s : State) : Outcome := primaryLine "LD (HL),A" 1 s

/-- R1120: `78`, `Plain("LD A,B", 1)`. -/
def exec_p78_LD_A_B (s : State) : Outcome := primaryLine "LD A,B" 1 s

/-- R1121: `79`, `Plain("LD A,C", 1)`. -/
def exec_p79_LD_A_C (s : State) : Outcome := primaryLine "LD A,C" 1 s

/-- R1122: `7A`, `Plain("LD A,D", 1)`. -/
def exec_p7A_LD_A_D (s : State) : Outcome := primaryLine "LD A,D" 1 s

/-- R1123: `7B`, `Plain("LD A,E", 1)`. -/
def exec_p7B_LD_A_E (s : State) : Outcome := primaryLine "LD A,E" 1 s

/-- R1124: `7C`, `Plain("LD A,H", 1)`. -/
def exec_p7C_LD_A_H (s : State) : Outcome := primaryLine "LD A,H" 1 s

/-- R1125: `7D`, `Plain("LD A,L", 1)`. -/
def exec_p7D_LD_A_L (s : State) : Outcome := primaryLine "LD A,L" 1 s

/-- R1126: `7E`, `Plain("LD A,(HL)", 1)`. -/
def exec_p7E_LD_A_mHL (s : State) : Outcome := primaryLine "LD A,(HL)" 1 s

/-- R1127: `7F`, `Plain("LD A,A", 1)`. -/
def exec_p7F_LD_A_A (s : State) : Outcome := primaryLine "LD A,A" 1 s

/-- R1128: `80`, `Plain("ADD A,B", 1)`. -/
def exec_p80_ADD_A_B (s : State) : Outcome := primaryLine "ADD A,B" 1 s

/-- R1129: `81`, `Plain("ADD A,C", 1)`. -/
def exec_p81_ADD_A_C (s : State) : Outcome := primaryLine "ADD A,C" 1 s

/-- R1130: `82`, `Plain("ADD A,D", 1)`. -/
def exec_p82_ADD_A_D (s : State) : Outcome := primaryLine "ADD A,D" 1 s

/-- R1131: `83`, `Plain("ADD A,E", 1)`. -/
def exec_p83_ADD_A_E (s : State) : Outcome := primaryLine "ADD A,E" 1 s

/-- R1132: `84`, `Plain("ADD A,H", 1)`. -/
def exec_p84_ADD_A_H (s : State) : Outcome := primaryLine "ADD A,H" 1 s

/-- R1133: `85`, `Plain("ADD A,L", 1)`. -/
def exec_p85_ADD_A_L (s : State) : Outcome := primaryLine "ADD A,L" 1 s

/-- R1134: `86`, `Plain("ADD A,(HL)", 1)`. -/
def exec_p86_ADD_A_mHL (s : State) : Outcome := primaryLine "ADD A,(HL)" 1 s

/-- R1135: `87`, `Plain("ADD A,A", 1)`. -/
def exec_p87_ADD_A_A (s : State) : Outcome := primaryLine "ADD A,A" 1 s

/-- R1136: `88`, `Plain("ADC A,B", 1)`. -/
def exec_p88_ADC_A_B (s : State) : Outcome := primaryLine "ADC A,B" 1 s

/-- R1137: `89`, `Plain("ADC A,C", 1)`. -/
def exec_p89_ADC_A_C (s : State) : Outcome := primaryLine "ADC A,C" 1 s

/-- R1138: `8A`, `Plain("ADC A,D", 1)`. -/
def exec_p8A_ADC_A_D (s : State) : Outcome := primaryLine "ADC A,D" 1 s

/-- R1139: `8B`, `Plain("ADC A,E", 1)`. -/
def exec_p8B_ADC_A_E (s : State) : Outcome := primaryLine "ADC A,E" 1 s

/-- R1140: `8C`, `Plain("ADC A,H", 1)`. -/
def exec_p8C_ADC_A_H (s : State) : Outcome := primaryLine "ADC A,H" 1 s

/-- R1141: `8D`, `Plain("ADC A,L", 1)`. -/
def exec_p8D_ADC_A_L (s : State) : Outcome := primaryLine "ADC A,L" 1 s

/-- R1142: `8E`, `Plain("ADC A,(HL)", 1)`. -/
def exec_p8E_ADC_A_mHL (s : State) : Outcome := primaryLine "ADC A,(HL)" 1 s

/-- R1143: `8F`, `Plain("ADC A,A", 1)`. -/
def exec_p8F_ADC_A_A (s : State) : Outcome := primaryLine "ADC A,A" 1 s

/-- R1144: `90`, `Plain("SUB B", 1)`. -/
def exec_p90_SUB_B (s : State) : Outcome := primaryLine "SUB B" 1 s

/-- R1145: `91`, `Plain("SUB C", 1)`. -/
def exec_p91_SUB_C (s : State) : Outcome := primaryLine "SUB C" 1 s

/-- R1146: `92`, `Plain("SUB D", 1)`. -/
def exec_p92_SUB_D (s : State) : Outcome := primaryLine "SUB D" 1 s

/-- R1147: `93`, `Plain("SUB E", 1)`. -/
def exec_p93_SUB_E (s : State) : Outcome := primaryLine "SUB E" 1 s

/-- R1148: `94`, `Plain("SUB H", 1)`. -/
def exec_p94_SUB_H (s : State) : Outcome := primaryLine "SUB H" 1 s

/-- R1149: `95`, `Plain("SUB L", 1)`. -/
def exec_p95_SUB_L (s : State) : Outcome := primaryLine "SUB L" 1 s

/-- R1150: `96`, `Plain("SUB (HL)", 1)`. -/
def exec_p96_SUB_mHL (s : State) : Outcome := primaryLine "SUB (HL)" 1 s

/-- R1151: `97`, `Plain("SUB A", 1)`. -/
def exec_p97_SUB_A (s : State) : Outcome := primaryLine "SUB A" 1 s

/-- R1152: `98`, `Plain("SBC A,B", 1)`. -/
def exec_p98_SBC_A_B (s : State) : Outcome := primaryLine "SBC A,B" 1 s

/-- R1153: `99`, `Plain("SBC A,C", 1)`. -/
def exec_p99_SBC_A_C (s : State) : Outcome := primaryLine "SBC A,C" 1 s

/-- R1154: `9A`, `Plain("SBC A,D", 1)`. -/
def exec_p9A_SBC_A_D (s : State) : Outcome := primaryLine "SBC A,D" 1 s

/-- R1155: `9B`, `Plain("SBC A,E", 1)`. -/
def exec_p9B_SBC_A_E (s : State) : Outcome := primaryLine "SBC A,E" 1 s

/-- R1156: `9C`, `Plain("SBC A,H", 1)`. -/
def exec_p9C_SBC_A_H (s : State) : Outcome := primaryLine "SBC A,H" 1 s

/-- R1157: `9D`, `Plain("SBC A,L", 1)`. -/
def exec_p9D_SBC_A_L (s : State) : Outcome := primaryLine "SBC A,L" 1 s

/-- R1158: `9E`, `Plain("SBC A,(HL)", 1)`. -/
def exec_p9E_SBC_A_mHL (s : State) : Outcome := primaryLine "SBC A,(HL)" 1 s

/-- R1159: `9F`, `Plain("SBC A,A", 1)`. -/
def exec_p9F_SBC_A_A (s : State) : Outcome := primaryLine "SBC A,A" 1 s

/-- R1160: `A0`, `Plain("AND B", 1)`. -/
def exec_pA0_AND_B (s : State) : Outcome := primaryLine "AND B" 1 s

/-- R1161: `A1`, `Plain("AND C", 1)`. -/
def exec_pA1_AND_C (s : State) : Outcome := primaryLine "AND C" 1 s

/-- R1162: `A2`, `Plain("AND D", 1)`. -/
def exec_pA2_AND_D (s : State) : Outcome := primaryLine "AND D" 1 s

/-- R1163: `A3`, `Plain("AND E", 1)`. -/
def exec_pA3_AND_E (s : State) : Outcome := primaryLine "AND E" 1 s

/-- R1164: `A4`, `Plain("AND H", 1)`. -/
def exec_pA4_AND_H (s : State) : Outcome := primaryLine "AND H" 1 s

/-- R1165: `A5`, `Plain("AND L", 1)`. -/
def exec_pA5_AND_L (s : State) : Outcome := primaryLine "AND L" 1 s

/-- R1166: `A6`, `Plain("AND (HL)", 1)`. -/
def exec_pA6_AND_mHL (s : State) : Outcome := primaryLine "AND (HL)" 1 s

/-- R1167: `A7`, `Plain("AND A", 1)`. -/
def exec_pA7_AND_A (s : State) : Outcome := primaryLine "AND A" 1 s

/-- R1168: `A8`, `Plain("XOR B", 1)`. -/
def exec_pA8_XOR_B (s : State) : Outcome := primaryLine "XOR B" 1 s

/-- R1169: `A9`, `Plain("XOR C", 1)`. -/
def exec_pA9_XOR_C (s : State) : Outcome := primaryLine "XOR C" 1 s

/-- R1170: `AA`, `Plain("XOR D", 1)`. -/
def exec_pAA_XOR_D (s : State) : Outcome := primaryLine "XOR D" 1 s

/-- R1171: `AB`, `Plain("XOR E", 1)`. -/
def exec_pAB_XOR_E (s : State) : Outcome := primaryLine "XOR E" 1 s

/-- R1172: `AC`, `Plain("XOR H", 1)`. -/
def exec_pAC_XOR_H (s : State) : Outcome := primaryLine "XOR H" 1 s

/-- R1173: `AD`, `Plain("XOR L", 1)`. -/
def exec_pAD_XOR_L (s : State) : Outcome := primaryLine "XOR L" 1 s

/-- R1174: `AE`, `Plain("XOR (HL)", 1)`. -/
def exec_pAE_XOR_mHL (s : State) : Outcome := primaryLine "XOR (HL)" 1 s

/-- R1175: `AF`, `Plain("XOR A", 1)`. -/
def exec_pAF_XOR_A (s : State) : Outcome := primaryLine "XOR A" 1 s

/-- R1176: `B0`, `Plain("OR B", 1)`. -/
def exec_pB0_OR_B (s : State) : Outcome := primaryLine "OR B" 1 s

/-- R1177: `B1`, `Plain("OR C", 1)`. -/
def exec_pB1_OR_C (s : State) : Outcome := primaryLine "OR C" 1 s

/-- R1178: `B2`, `Plain("OR D", 1)`. -/
def exec_pB2_OR_D (s : State) : Outcome := primaryLine "OR D" 1 s

/-- R1179: `B3`, `Plain("OR E", 1)`. -/
def exec_pB3_OR_E (s : State) : Outcome := primaryLine "OR E" 1 s

/-- R1180: `B4`, `Plain("OR H", 1)`. -/
def exec_pB4_OR_H (s : State) : Outcome := primaryLine "OR H" 1 s

/-- R1181: `B5`, `Plain("OR L", 1)`. -/
def exec_pB5_OR_L (s : State) : Outcome := primaryLine "OR L" 1 s

/-- R1182: `B6`, `Plain("OR (HL)", 1)`. -/
def exec_pB6_OR_mHL (s : State) : Outcome := primaryLine "OR (HL)" 1 s

/-- R1183: `B7`, `Plain("OR A", 1)`. -/
def exec_pB7_OR_A (s : State) : Outcome := primaryLine "OR A" 1 s

/-- R1184: `B8`, `Plain("CP B", 1)`. -/
def exec_pB8_CP_B (s : State) : Outcome := primaryLine "CP B" 1 s

/-- R1185: `B9`, `Plain("CP C", 1)`. -/
def exec_pB9_CP_C (s : State) : Outcome := primaryLine "CP C" 1 s

/-- R1186: `BA`, `Plain("CP D", 1)`. -/
def exec_pBA_CP_D (s : State) : Outcome := primaryLine "CP D" 1 s

/-- R1187: `BB`, `Plain("CP E", 1)`. -/
def exec_pBB_CP_E (s : State) : Outcome := primaryLine "CP E" 1 s

/-- R1188: `BC`, `Plain("CP H", 1)`. -/
def exec_pBC_CP_H (s : State) : Outcome := primaryLine "CP H" 1 s

/-- R1189: `BD`, `Plain("CP L", 1)`. -/
def exec_pBD_CP_L (s : State) : Outcome := primaryLine "CP L" 1 s

/-- R1190: `BE`, `Plain("CP (HL)", 1)`. -/
def exec_pBE_CP_mHL (s : State) : Outcome := primaryLine "CP (HL)" 1 s

/-- R1191: `BF`, `Plain("CP A", 1)`. -/
def exec_pBF_CP_A (s : State) : Outcome := primaryLine "CP A" 1 s

/-- R1192: `C0`, `Plain("RET NZ", 1)`. -/
def exec_pC0_RET_NZ (s : State) : Outcome := primaryLine "RET NZ" 1 s

/-- R1193: `C1`, `Plain("POP BC", 1)`. -/
def exec_pC1_POP_BC (s : State) : Outcome := primaryLine "POP BC" 1 s

/-- R1194: `C2 lo hi`, `Plain("JP NZ,nn", 3)`. -/
def exec_pC2_JP_NZ_nn (s : State) : Outcome := primaryLine "JP NZ,nn" 3 s

/-- R1195: `C3 lo hi`, `Plain("JP nn", 3)`. -/
def exec_pC3_JP_nn (s : State) : Outcome := primaryLine "JP nn" 3 s

/-- R1196: `C4 lo hi`, `Plain("CALL NZ,nn", 3)`. -/
def exec_pC4_CALL_NZ_nn (s : State) : Outcome := primaryLine "CALL NZ,nn" 3 s

/-- R1197: `C5`, `Plain("PUSH BC", 1)`. -/
def exec_pC5_PUSH_BC (s : State) : Outcome := primaryLine "PUSH BC" 1 s

/-- R1198: `C6 n`, `Plain("ADD A,n", 2)`. -/
def exec_pC6_ADD_A_n (s : State) : Outcome := primaryLine "ADD A,n" 2 s

/-- R1199: `C7`, `Plain("RST 00H", 1)`. -/
def exec_pC7_RST_00H (s : State) : Outcome := primaryLine "RST 00H" 1 s

/-- R1200: `C8`, `Plain("RET Z", 1)`. -/
def exec_pC8_RET_Z (s : State) : Outcome := primaryLine "RET Z" 1 s

/-- R1201: `C9`, `Plain("RET", 1)`. -/
def exec_pC9_RET (s : State) : Outcome := primaryLine "RET" 1 s

/-- R1202: `CA lo hi`, `Plain("JP Z,nn", 3)`. -/
def exec_pCA_JP_Z_nn (s : State) : Outcome := primaryLine "JP Z,nn" 3 s

/-- R1203: `CB` is `PrefixTo(CB)`. -/
def exec_pCB_PREFIX_CB (s : State) : Outcome :=
  prefixRow (defaultTables s.placeholder) .cb s

/-- R1204: `CC lo hi`, `Plain("CALL Z,nn", 3)`. -/
def exec_pCC_CALL_Z_nn (s : State) : Outcome := primaryLine "CALL Z,nn" 3 s

/-- R1205: `CD lo hi`, `Plain("CALL nn", 3)`. -/
def exec_pCD_CALL_nn (s : State) : Outcome := primaryLine "CALL nn" 3 s

/-- R1206: `CE n`, `Plain("ADC A,n", 2)`. -/
def exec_pCE_ADC_A_n (s : State) : Outcome := primaryLine "ADC A,n" 2 s

/-- R1207: `CF`, `Plain("RST 08H", 1)`. -/
def exec_pCF_RST_08H (s : State) : Outcome := primaryLine "RST 08H" 1 s

/-- R1208: `D0`, `Plain("RET NC", 1)`. -/
def exec_pD0_RET_NC (s : State) : Outcome := primaryLine "RET NC" 1 s

/-- R1209: `D1`, `Plain("POP DE", 1)`. -/
def exec_pD1_POP_DE (s : State) : Outcome := primaryLine "POP DE" 1 s

/-- R1210: `D2 lo hi`, `Plain("JP NC,nn", 3)`. -/
def exec_pD2_JP_NC_nn (s : State) : Outcome := primaryLine "JP NC,nn" 3 s

/-- R1211: `D3 n`, `Plain("OUT (n),A", 2)`. -/
def exec_pD3_OUT_mn_A (s : State) : Outcome := primaryLine "OUT (n),A" 2 s

/-- R1212: `D4 lo hi`, `Plain("CALL NC,nn", 3)`. -/
def exec_pD4_CALL_NC_nn (s : State) : Outcome := primaryLine "CALL NC,nn" 3 s

/-- R1213: `D5`, `Plain("PUSH DE", 1)`. -/
def exec_pD5_PUSH_DE (s : State) : Outcome := primaryLine "PUSH DE" 1 s

/-- R1214: `D6 n`, `Plain("SUB n", 2)`. -/
def exec_pD6_SUB_n (s : State) : Outcome := primaryLine "SUB n" 2 s

/-- R1215: `D7`, `Plain("RST 10H", 1)`. -/
def exec_pD7_RST_10H (s : State) : Outcome := primaryLine "RST 10H" 1 s

/-- R1216: `D8`, `Plain("RET C", 1)`. -/
def exec_pD8_RET_C (s : State) : Outcome := primaryLine "RET C" 1 s

/-- R1217: `D9`, `Plain("EXX", 1)`. -/
def exec_pD9_EXX (s : State) : Outcome := primaryLine "EXX" 1 s

/-- R1218: `DA lo hi`, `Plain("JP C,nn", 3)`. -/
def exec_pDA_JP_C_nn (s : State) : Outcome := primaryLine "JP C,nn" 3 s

/-- R1219: `DB n`, `Plain("IN A,(n)", 2)`. -/
def exec_pDB_IN_A_mn (s : State) : Outcome := primaryLine "IN A,(n)" 2 s

/-- R1220: `DC lo hi`, `Plain("CALL C,nn", 3)`. -/
def exec_pDC_CALL_C_nn (s : State) : Outcome := primaryLine "CALL C,nn" 3 s

/-- R1221: `DD` is `PrefixTo(DD)`. -/
def exec_pDD_PREFIX_DD (s : State) : Outcome :=
  prefixRow (defaultTables s.placeholder) .dd s

/-- R1222: `DE n`, `Plain("SBC A,n", 2)`. -/
def exec_pDE_SBC_A_n (s : State) : Outcome := primaryLine "SBC A,n" 2 s

/-- R1223: `DF`, `Plain("RST 18H", 1)`. -/
def exec_pDF_RST_18H (s : State) : Outcome := primaryLine "RST 18H" 1 s

/-- R1224: `E0`, `Plain("RET PO", 1)`. -/
def exec_pE0_RET_PO (s : State) : Outcome := primaryLine "RET PO" 1 s

/-- R1225: `E1`, `Plain("POP HL", 1)`. -/
def exec_pE1_POP_HL (s : State) : Outcome := primaryLine "POP HL" 1 s

/-- R1226: `E2 lo hi`, `Plain("JP PO,nn", 3)`. -/
def exec_pE2_JP_PO_nn (s : State) : Outcome := primaryLine "JP PO,nn" 3 s

/-- R1227: `E3`, `Plain("EX (SP),HL", 1)`. -/
def exec_pE3_EX_mSP_HL (s : State) : Outcome := primaryLine "EX (SP),HL" 1 s

/-- R1228: `E4 lo hi`, `Plain("CALL PO,nn", 3)`. -/
def exec_pE4_CALL_PO_nn (s : State) : Outcome := primaryLine "CALL PO,nn" 3 s

/-- R1229: `E5`, `Plain("PUSH HL", 1)`. -/
def exec_pE5_PUSH_HL (s : State) : Outcome := primaryLine "PUSH HL" 1 s

/-- R1230: `E6 n`, `Plain("AND n", 2)`. -/
def exec_pE6_AND_n (s : State) : Outcome := primaryLine "AND n" 2 s

/-- R1231: `E7`, `Plain("RST 20H", 1)`. -/
def exec_pE7_RST_20H (s : State) : Outcome := primaryLine "RST 20H" 1 s

/-- R1232: `E8`, `Plain("RET PE", 1)`. -/
def exec_pE8_RET_PE (s : State) : Outcome := primaryLine "RET PE" 1 s

/-- R1233: `E9`, `Plain("JP (HL)", 1)`. -/
def exec_pE9_JP_mHL (s : State) : Outcome := primaryLine "JP (HL)" 1 s

/-- R1234: `EA lo hi`, `Plain("JP PE,nn", 3)`. -/
def exec_pEA_JP_PE_nn (s : State) : Outcome := primaryLine "JP PE,nn" 3 s

/-- R1235: `EB`, `Plain("EX DE,HL", 1)`. -/
def exec_pEB_EX_DE_HL (s : State) : Outcome := primaryLine "EX DE,HL" 1 s

/-- R1236: `EC lo hi`, `Plain("CALL PE,nn", 3)`. -/
def exec_pEC_CALL_PE_nn (s : State) : Outcome := primaryLine "CALL PE,nn" 3 s

/-- R1237: `ED` is `PrefixTo(ED)`. -/
def exec_pED_PREFIX_ED (s : State) : Outcome :=
  prefixRow (defaultTables s.placeholder) .ed s

/-- R1238: `EE n`, `Plain("XOR n", 2)`. -/
def exec_pEE_XOR_n (s : State) : Outcome := primaryLine "XOR n" 2 s

/-- R1239: `EF`, `Plain("RST 28H", 1)`. -/
def exec_pEF_RST_28H (s : State) : Outcome := primaryLine "RST 28H" 1 s

/-- R1240: `F0`, `Plain("RET P", 1)`. -/
def exec_pF0_RET_P (s : State) : Outcome := primaryLine "RET P" 1 s

/-- R1241: `F1`, `Plain("POP AF", 1)`. -/
def exec_pF1_POP_AF (s : State) : Outcome := primaryLine "POP AF" 1 s

/-- R1242: `F2 lo hi`, `Plain("JP P,nn", 3)`. -/
def exec_pF2_JP_P_nn (s : State) : Outcome := primaryLine "JP P,nn" 3 s

/-- R1243: `F3`, `Plain("DI", 1)`. -/
def exec_pF3_DI (s : State) : Outcome := primaryLine "DI" 1 s

/-- R1244: `F4 lo hi`, `Plain("CALL P,nn", 3)`. -/
def exec_pF4_CALL_P_nn (s : State) : Outcome := primaryLine "CALL P,nn" 3 s

/-- R1245: `F5`, `Plain("PUSH AF", 1)`. -/
def exec_pF5_PUSH_AF (s : State) : Outcome := primaryLine "PUSH AF" 1 s

/-- R1246: `F6 n`, `Plain("OR n", 2)`. -/
def exec_pF6_OR_n (s : State) : Outcome := primaryLine "OR n" 2 s

/-- R1247: `F7`, `Plain("RST 30H", 1)`. -/
def exec_pF7_RST_30H (s : State) : Outcome := primaryLine "RST 30H" 1 s

/-- R1248: `F8`, `Plain("RET M", 1)`. -/
def exec_pF8_RET_M (s : State) : Outcome := primaryLine "RET M" 1 s

/-- R1249: `F9`, `Plain("LD SP,HL", 1)`. -/
def exec_pF9_LD_SP_HL (s : State) : Outcome := primaryLine "LD SP,HL" 1 s

/-- R1250: `FA lo hi`, `Plain("JP M,nn", 3)`. -/
def exec_pFA_JP_M_nn (s : State) : Outcome := primaryLine "JP M,nn" 3 s

/-- R1251: `FB`, `Plain("EI", 1)`. -/
def exec_pFB_EI (s : State) : Outcome := primaryLine "EI" 1 s

/-- R1252: `FC lo hi`, `Plain("CALL M,nn", 3)`. -/
def exec_pFC_CALL_M_nn (s : State) : Outcome := primaryLine "CALL M,nn" 3 s

/-- R1253: `FD` is `PrefixTo(FD)`. -/
def exec_pFD_PREFIX_FD (s : State) : Outcome :=
  prefixRow (defaultTables s.placeholder) .fd s

/-- R1254: `FE n`, `Plain("CP n", 2)`. -/
def exec_pFE_CP_n (s : State) : Outcome := primaryLine "CP n" 2 s

/-- R1255: `FF`, `Plain("RST 38H", 1)`. -/
def exec_pFF_RST_38H (s : State) : Outcome := primaryLine "RST 38H" 1 s

end Sys2Proof.Machine
end

