-- ==== Sys2Proof/Machine/Dispatch.lean ====
section
/-! DEFINITION. The dispatch from each instruction to its meaning, one arm for each table entry. -/

namespace Sys2Proof.Machine

def exec (i : Instr) (s : State) : Host.Outcome State Fault Refusal :=
  match i with
  -- Primary table
  | .p00_NOP => Sys2Proof.Machine.exec_p00_NOP s
  | .p01_LD_BC_nn => Sys2Proof.Machine.exec_p01_LD_BC_nn s
  | .p02_LD_mBC_A => Sys2Proof.Machine.exec_p02_LD_mBC_A s
  | .p03_INC_BC => Sys2Proof.Machine.exec_p03_INC_BC s
  | .p04_INC_B => Sys2Proof.Machine.exec_p04_INC_B s
  | .p05_DEC_B => Sys2Proof.Machine.exec_p05_DEC_B s
  | .p06_LD_B_n => Sys2Proof.Machine.exec_p06_LD_B_n s
  | .p07_RLCA => Sys2Proof.Machine.exec_p07_RLCA s
  | .p08_EX_AF_AFx => Sys2Proof.Machine.exec_p08_EX_AF_AFx s
  | .p09_ADD_HL_BC => Sys2Proof.Machine.exec_p09_ADD_HL_BC s
  | .p0A_LD_A_mBC => Sys2Proof.Machine.exec_p0A_LD_A_mBC s
  | .p0B_DEC_BC => Sys2Proof.Machine.exec_p0B_DEC_BC s
  | .p0C_INC_C => Sys2Proof.Machine.exec_p0C_INC_C s
  | .p0D_DEC_C => Sys2Proof.Machine.exec_p0D_DEC_C s
  | .p0E_LD_C_n => Sys2Proof.Machine.exec_p0E_LD_C_n s
  | .p0F_RRCA => Sys2Proof.Machine.exec_p0F_RRCA s
  | .p10_DJNZ_e => Sys2Proof.Machine.exec_p10_DJNZ_e s
  | .p11_LD_DE_nn => Sys2Proof.Machine.exec_p11_LD_DE_nn s
  | .p12_LD_mDE_A => Sys2Proof.Machine.exec_p12_LD_mDE_A s
  | .p13_INC_DE => Sys2Proof.Machine.exec_p13_INC_DE s
  | .p14_INC_D => Sys2Proof.Machine.exec_p14_INC_D s
  | .p15_DEC_D => Sys2Proof.Machine.exec_p15_DEC_D s
  | .p16_LD_D_n => Sys2Proof.Machine.exec_p16_LD_D_n s
  | .p17_RLA => Sys2Proof.Machine.exec_p17_RLA s
  | .p18_JR_e => Sys2Proof.Machine.exec_p18_JR_e s
  | .p19_ADD_HL_DE => Sys2Proof.Machine.exec_p19_ADD_HL_DE s
  | .p1A_LD_A_mDE => Sys2Proof.Machine.exec_p1A_LD_A_mDE s
  | .p1B_DEC_DE => Sys2Proof.Machine.exec_p1B_DEC_DE s
  | .p1C_INC_E => Sys2Proof.Machine.exec_p1C_INC_E s
  | .p1D_DEC_E => Sys2Proof.Machine.exec_p1D_DEC_E s
  | .p1E_LD_E_n => Sys2Proof.Machine.exec_p1E_LD_E_n s
  | .p1F_RRA => Sys2Proof.Machine.exec_p1F_RRA s
  | .p20_JR_NZ_e => Sys2Proof.Machine.exec_p20_JR_NZ_e s
  | .p21_LD_HL_nn => Sys2Proof.Machine.exec_p21_LD_HL_nn s
  | .p22_LD_mnn_HL => Sys2Proof.Machine.exec_p22_LD_mnn_HL s
  | .p23_INC_HL => Sys2Proof.Machine.exec_p23_INC_HL s
  | .p24_INC_H => Sys2Proof.Machine.exec_p24_INC_H s
  | .p25_DEC_H => Sys2Proof.Machine.exec_p25_DEC_H s
  | .p26_LD_H_n => Sys2Proof.Machine.exec_p26_LD_H_n s
  | .p27_DAA => Sys2Proof.Machine.exec_p27_DAA s
  | .p28_JR_Z_e => Sys2Proof.Machine.exec_p28_JR_Z_e s
  | .p29_ADD_HL_HL => Sys2Proof.Machine.exec_p29_ADD_HL_HL s
  | .p2A_LD_HL_mnn => Sys2Proof.Machine.exec_p2A_LD_HL_mnn s
  | .p2B_DEC_HL => Sys2Proof.Machine.exec_p2B_DEC_HL s
  | .p2C_INC_L => Sys2Proof.Machine.exec_p2C_INC_L s
  | .p2D_DEC_L => Sys2Proof.Machine.exec_p2D_DEC_L s
  | .p2E_LD_L_n => Sys2Proof.Machine.exec_p2E_LD_L_n s
  | .p2F_CPL => Sys2Proof.Machine.exec_p2F_CPL s
  | .p30_JR_NC_e => Sys2Proof.Machine.exec_p30_JR_NC_e s
  | .p31_LD_SP_nn => Sys2Proof.Machine.exec_p31_LD_SP_nn s
  | .p32_LD_mnn_A => Sys2Proof.Machine.exec_p32_LD_mnn_A s
  | .p33_INC_SP => Sys2Proof.Machine.exec_p33_INC_SP s
  | .p34_INC_mHL => Sys2Proof.Machine.exec_p34_INC_mHL s
  | .p35_DEC_mHL => Sys2Proof.Machine.exec_p35_DEC_mHL s
  | .p36_LD_mHL_n => Sys2Proof.Machine.exec_p36_LD_mHL_n s
  | .p37_SCF => Sys2Proof.Machine.exec_p37_SCF s
  | .p38_JR_C_e => Sys2Proof.Machine.exec_p38_JR_C_e s
  | .p39_ADD_HL_SP => Sys2Proof.Machine.exec_p39_ADD_HL_SP s
  | .p3A_LD_A_mnn => Sys2Proof.Machine.exec_p3A_LD_A_mnn s
  | .p3B_DEC_SP => Sys2Proof.Machine.exec_p3B_DEC_SP s
  | .p3C_INC_A => Sys2Proof.Machine.exec_p3C_INC_A s
  | .p3D_DEC_A => Sys2Proof.Machine.exec_p3D_DEC_A s
  | .p3E_LD_A_n => Sys2Proof.Machine.exec_p3E_LD_A_n s
  | .p3F_CCF => Sys2Proof.Machine.exec_p3F_CCF s
  | .p40_LD_B_B => Sys2Proof.Machine.exec_p40_LD_B_B s
  | .p41_LD_B_C => Sys2Proof.Machine.exec_p41_LD_B_C s
  | .p42_LD_B_D => Sys2Proof.Machine.exec_p42_LD_B_D s
  | .p43_LD_B_E => Sys2Proof.Machine.exec_p43_LD_B_E s
  | .p44_LD_B_H => Sys2Proof.Machine.exec_p44_LD_B_H s
  | .p45_LD_B_L => Sys2Proof.Machine.exec_p45_LD_B_L s
  | .p46_LD_B_mHL => Sys2Proof.Machine.exec_p46_LD_B_mHL s
  | .p47_LD_B_A => Sys2Proof.Machine.exec_p47_LD_B_A s
  | .p48_LD_C_B => Sys2Proof.Machine.exec_p48_LD_C_B s
  | .p49_LD_C_C => Sys2Proof.Machine.exec_p49_LD_C_C s
  | .p4A_LD_C_D => Sys2Proof.Machine.exec_p4A_LD_C_D s
  | .p4B_LD_C_E => Sys2Proof.Machine.exec_p4B_LD_C_E s
  | .p4C_LD_C_H => Sys2Proof.Machine.exec_p4C_LD_C_H s
  | .p4D_LD_C_L => Sys2Proof.Machine.exec_p4D_LD_C_L s
  | .p4E_LD_C_mHL => Sys2Proof.Machine.exec_p4E_LD_C_mHL s
  | .p4F_LD_C_A => Sys2Proof.Machine.exec_p4F_LD_C_A s
  | .p50_LD_D_B => Sys2Proof.Machine.exec_p50_LD_D_B s
  | .p51_LD_D_C => Sys2Proof.Machine.exec_p51_LD_D_C s
  | .p52_LD_D_D => Sys2Proof.Machine.exec_p52_LD_D_D s
  | .p53_LD_D_E => Sys2Proof.Machine.exec_p53_LD_D_E s
  | .p54_LD_D_H => Sys2Proof.Machine.exec_p54_LD_D_H s
  | .p55_LD_D_L => Sys2Proof.Machine.exec_p55_LD_D_L s
  | .p56_LD_D_mHL => Sys2Proof.Machine.exec_p56_LD_D_mHL s
  | .p57_LD_D_A => Sys2Proof.Machine.exec_p57_LD_D_A s
  | .p58_LD_E_B => Sys2Proof.Machine.exec_p58_LD_E_B s
  | .p59_LD_E_C => Sys2Proof.Machine.exec_p59_LD_E_C s
  | .p5A_LD_E_D => Sys2Proof.Machine.exec_p5A_LD_E_D s
  | .p5B_LD_E_E => Sys2Proof.Machine.exec_p5B_LD_E_E s
  | .p5C_LD_E_H => Sys2Proof.Machine.exec_p5C_LD_E_H s
  | .p5D_LD_E_L => Sys2Proof.Machine.exec_p5D_LD_E_L s
  | .p5E_LD_E_mHL => Sys2Proof.Machine.exec_p5E_LD_E_mHL s
  | .p5F_LD_E_A => Sys2Proof.Machine.exec_p5F_LD_E_A s
  | .p60_LD_H_B => Sys2Proof.Machine.exec_p60_LD_H_B s
  | .p61_LD_H_C => Sys2Proof.Machine.exec_p61_LD_H_C s
  | .p62_LD_H_D => Sys2Proof.Machine.exec_p62_LD_H_D s
  | .p63_LD_H_E => Sys2Proof.Machine.exec_p63_LD_H_E s
  | .p64_LD_H_H => Sys2Proof.Machine.exec_p64_LD_H_H s
  | .p65_LD_H_L => Sys2Proof.Machine.exec_p65_LD_H_L s
  | .p66_LD_H_mHL => Sys2Proof.Machine.exec_p66_LD_H_mHL s
  | .p67_LD_H_A => Sys2Proof.Machine.exec_p67_LD_H_A s
  | .p68_LD_L_B => Sys2Proof.Machine.exec_p68_LD_L_B s
  | .p69_LD_L_C => Sys2Proof.Machine.exec_p69_LD_L_C s
  | .p6A_LD_L_D => Sys2Proof.Machine.exec_p6A_LD_L_D s
  | .p6B_LD_L_E => Sys2Proof.Machine.exec_p6B_LD_L_E s
  | .p6C_LD_L_H => Sys2Proof.Machine.exec_p6C_LD_L_H s
  | .p6D_LD_L_L => Sys2Proof.Machine.exec_p6D_LD_L_L s
  | .p6E_LD_L_mHL => Sys2Proof.Machine.exec_p6E_LD_L_mHL s
  | .p6F_LD_L_A => Sys2Proof.Machine.exec_p6F_LD_L_A s
  | .p70_LD_mHL_B => Sys2Proof.Machine.exec_p70_LD_mHL_B s
  | .p71_LD_mHL_C => Sys2Proof.Machine.exec_p71_LD_mHL_C s
  | .p72_LD_mHL_D => Sys2Proof.Machine.exec_p72_LD_mHL_D s
  | .p73_LD_mHL_E => Sys2Proof.Machine.exec_p73_LD_mHL_E s
  | .p74_LD_mHL_H => Sys2Proof.Machine.exec_p74_LD_mHL_H s
  | .p75_LD_mHL_L => Sys2Proof.Machine.exec_p75_LD_mHL_L s
  | .p76_HALT => Sys2Proof.Machine.exec_p76_HALT s
  | .p77_LD_mHL_A => Sys2Proof.Machine.exec_p77_LD_mHL_A s
  | .p78_LD_A_B => Sys2Proof.Machine.exec_p78_LD_A_B s
  | .p79_LD_A_C => Sys2Proof.Machine.exec_p79_LD_A_C s
  | .p7A_LD_A_D => Sys2Proof.Machine.exec_p7A_LD_A_D s
  | .p7B_LD_A_E => Sys2Proof.Machine.exec_p7B_LD_A_E s
  | .p7C_LD_A_H => Sys2Proof.Machine.exec_p7C_LD_A_H s
  | .p7D_LD_A_L => Sys2Proof.Machine.exec_p7D_LD_A_L s
  | .p7E_LD_A_mHL => Sys2Proof.Machine.exec_p7E_LD_A_mHL s
  | .p7F_LD_A_A => Sys2Proof.Machine.exec_p7F_LD_A_A s
  | .p80_ADD_A_B => Sys2Proof.Machine.exec_p80_ADD_A_B s
  | .p81_ADD_A_C => Sys2Proof.Machine.exec_p81_ADD_A_C s
  | .p82_ADD_A_D => Sys2Proof.Machine.exec_p82_ADD_A_D s
  | .p83_ADD_A_E => Sys2Proof.Machine.exec_p83_ADD_A_E s
  | .p84_ADD_A_H => Sys2Proof.Machine.exec_p84_ADD_A_H s
  | .p85_ADD_A_L => Sys2Proof.Machine.exec_p85_ADD_A_L s
  | .p86_ADD_A_mHL => Sys2Proof.Machine.exec_p86_ADD_A_mHL s
  | .p87_ADD_A_A => Sys2Proof.Machine.exec_p87_ADD_A_A s
  | .p88_ADC_A_B => Sys2Proof.Machine.exec_p88_ADC_A_B s
  | .p89_ADC_A_C => Sys2Proof.Machine.exec_p89_ADC_A_C s
  | .p8A_ADC_A_D => Sys2Proof.Machine.exec_p8A_ADC_A_D s
  | .p8B_ADC_A_E => Sys2Proof.Machine.exec_p8B_ADC_A_E s
  | .p8C_ADC_A_H => Sys2Proof.Machine.exec_p8C_ADC_A_H s
  | .p8D_ADC_A_L => Sys2Proof.Machine.exec_p8D_ADC_A_L s
  | .p8E_ADC_A_mHL => Sys2Proof.Machine.exec_p8E_ADC_A_mHL s
  | .p8F_ADC_A_A => Sys2Proof.Machine.exec_p8F_ADC_A_A s
  | .p90_SUB_B => Sys2Proof.Machine.exec_p90_SUB_B s
  | .p91_SUB_C => Sys2Proof.Machine.exec_p91_SUB_C s
  | .p92_SUB_D => Sys2Proof.Machine.exec_p92_SUB_D s
  | .p93_SUB_E => Sys2Proof.Machine.exec_p93_SUB_E s
  | .p94_SUB_H => Sys2Proof.Machine.exec_p94_SUB_H s
  | .p95_SUB_L => Sys2Proof.Machine.exec_p95_SUB_L s
  | .p96_SUB_mHL => Sys2Proof.Machine.exec_p96_SUB_mHL s
  | .p97_SUB_A => Sys2Proof.Machine.exec_p97_SUB_A s
  | .p98_SBC_A_B => Sys2Proof.Machine.exec_p98_SBC_A_B s
  | .p99_SBC_A_C => Sys2Proof.Machine.exec_p99_SBC_A_C s
  | .p9A_SBC_A_D => Sys2Proof.Machine.exec_p9A_SBC_A_D s
  | .p9B_SBC_A_E => Sys2Proof.Machine.exec_p9B_SBC_A_E s
  | .p9C_SBC_A_H => Sys2Proof.Machine.exec_p9C_SBC_A_H s
  | .p9D_SBC_A_L => Sys2Proof.Machine.exec_p9D_SBC_A_L s
  | .p9E_SBC_A_mHL => Sys2Proof.Machine.exec_p9E_SBC_A_mHL s
  | .p9F_SBC_A_A => Sys2Proof.Machine.exec_p9F_SBC_A_A s
  | .pA0_AND_B => Sys2Proof.Machine.exec_pA0_AND_B s
  | .pA1_AND_C => Sys2Proof.Machine.exec_pA1_AND_C s
  | .pA2_AND_D => Sys2Proof.Machine.exec_pA2_AND_D s
  | .pA3_AND_E => Sys2Proof.Machine.exec_pA3_AND_E s
  | .pA4_AND_H => Sys2Proof.Machine.exec_pA4_AND_H s
  | .pA5_AND_L => Sys2Proof.Machine.exec_pA5_AND_L s
  | .pA6_AND_mHL => Sys2Proof.Machine.exec_pA6_AND_mHL s
  | .pA7_AND_A => Sys2Proof.Machine.exec_pA7_AND_A s
  | .pA8_XOR_B => Sys2Proof.Machine.exec_pA8_XOR_B s
  | .pA9_XOR_C => Sys2Proof.Machine.exec_pA9_XOR_C s
  | .pAA_XOR_D => Sys2Proof.Machine.exec_pAA_XOR_D s
  | .pAB_XOR_E => Sys2Proof.Machine.exec_pAB_XOR_E s
  | .pAC_XOR_H => Sys2Proof.Machine.exec_pAC_XOR_H s
  | .pAD_XOR_L => Sys2Proof.Machine.exec_pAD_XOR_L s
  | .pAE_XOR_mHL => Sys2Proof.Machine.exec_pAE_XOR_mHL s
  | .pAF_XOR_A => Sys2Proof.Machine.exec_pAF_XOR_A s
  | .pB0_OR_B => Sys2Proof.Machine.exec_pB0_OR_B s
  | .pB1_OR_C => Sys2Proof.Machine.exec_pB1_OR_C s
  | .pB2_OR_D => Sys2Proof.Machine.exec_pB2_OR_D s
  | .pB3_OR_E => Sys2Proof.Machine.exec_pB3_OR_E s
  | .pB4_OR_H => Sys2Proof.Machine.exec_pB4_OR_H s
  | .pB5_OR_L => Sys2Proof.Machine.exec_pB5_OR_L s
  | .pB6_OR_mHL => Sys2Proof.Machine.exec_pB6_OR_mHL s
  | .pB7_OR_A => Sys2Proof.Machine.exec_pB7_OR_A s
  | .pB8_CP_B => Sys2Proof.Machine.exec_pB8_CP_B s
  | .pB9_CP_C => Sys2Proof.Machine.exec_pB9_CP_C s
  | .pBA_CP_D => Sys2Proof.Machine.exec_pBA_CP_D s
  | .pBB_CP_E => Sys2Proof.Machine.exec_pBB_CP_E s
  | .pBC_CP_H => Sys2Proof.Machine.exec_pBC_CP_H s
  | .pBD_CP_L => Sys2Proof.Machine.exec_pBD_CP_L s
  | .pBE_CP_mHL => Sys2Proof.Machine.exec_pBE_CP_mHL s
  | .pBF_CP_A => Sys2Proof.Machine.exec_pBF_CP_A s
  | .pC0_RET_NZ => Sys2Proof.Machine.exec_pC0_RET_NZ s
  | .pC1_POP_BC => Sys2Proof.Machine.exec_pC1_POP_BC s
  | .pC2_JP_NZ_nn => Sys2Proof.Machine.exec_pC2_JP_NZ_nn s
  | .pC3_JP_nn => Sys2Proof.Machine.exec_pC3_JP_nn s
  | .pC4_CALL_NZ_nn => Sys2Proof.Machine.exec_pC4_CALL_NZ_nn s
  | .pC5_PUSH_BC => Sys2Proof.Machine.exec_pC5_PUSH_BC s
  | .pC6_ADD_A_n => Sys2Proof.Machine.exec_pC6_ADD_A_n s
  | .pC7_RST_00H => Sys2Proof.Machine.exec_pC7_RST_00H s
  | .pC8_RET_Z => Sys2Proof.Machine.exec_pC8_RET_Z s
  | .pC9_RET => Sys2Proof.Machine.exec_pC9_RET s
  | .pCA_JP_Z_nn => Sys2Proof.Machine.exec_pCA_JP_Z_nn s
  | .pCB_PREFIX_CB => Sys2Proof.Machine.exec_pCB_PREFIX_CB s
  | .pCC_CALL_Z_nn => Sys2Proof.Machine.exec_pCC_CALL_Z_nn s
  | .pCD_CALL_nn => Sys2Proof.Machine.exec_pCD_CALL_nn s
  | .pCE_ADC_A_n => Sys2Proof.Machine.exec_pCE_ADC_A_n s
  | .pCF_RST_08H => Sys2Proof.Machine.exec_pCF_RST_08H s
  | .pD0_RET_NC => Sys2Proof.Machine.exec_pD0_RET_NC s
  | .pD1_POP_DE => Sys2Proof.Machine.exec_pD1_POP_DE s
  | .pD2_JP_NC_nn => Sys2Proof.Machine.exec_pD2_JP_NC_nn s
  | .pD3_OUT_mn_A => Sys2Proof.Machine.exec_pD3_OUT_mn_A s
  | .pD4_CALL_NC_nn => Sys2Proof.Machine.exec_pD4_CALL_NC_nn s
  | .pD5_PUSH_DE => Sys2Proof.Machine.exec_pD5_PUSH_DE s
  | .pD6_SUB_n => Sys2Proof.Machine.exec_pD6_SUB_n s
  | .pD7_RST_10H => Sys2Proof.Machine.exec_pD7_RST_10H s
  | .pD8_RET_C => Sys2Proof.Machine.exec_pD8_RET_C s
  | .pD9_EXX => Sys2Proof.Machine.exec_pD9_EXX s
  | .pDA_JP_C_nn => Sys2Proof.Machine.exec_pDA_JP_C_nn s
  | .pDB_IN_A_mn => Sys2Proof.Machine.exec_pDB_IN_A_mn s
  | .pDC_CALL_C_nn => Sys2Proof.Machine.exec_pDC_CALL_C_nn s
  | .pDD_PREFIX_DD => Sys2Proof.Machine.exec_pDD_PREFIX_DD s
  | .pDE_SBC_A_n => Sys2Proof.Machine.exec_pDE_SBC_A_n s
  | .pDF_RST_18H => Sys2Proof.Machine.exec_pDF_RST_18H s
  | .pE0_RET_PO => Sys2Proof.Machine.exec_pE0_RET_PO s
  | .pE1_POP_HL => Sys2Proof.Machine.exec_pE1_POP_HL s
  | .pE2_JP_PO_nn => Sys2Proof.Machine.exec_pE2_JP_PO_nn s
  | .pE3_EX_mSP_HL => Sys2Proof.Machine.exec_pE3_EX_mSP_HL s
  | .pE4_CALL_PO_nn => Sys2Proof.Machine.exec_pE4_CALL_PO_nn s
  | .pE5_PUSH_HL => Sys2Proof.Machine.exec_pE5_PUSH_HL s
  | .pE6_AND_n => Sys2Proof.Machine.exec_pE6_AND_n s
  | .pE7_RST_20H => Sys2Proof.Machine.exec_pE7_RST_20H s
  | .pE8_RET_PE => Sys2Proof.Machine.exec_pE8_RET_PE s
  | .pE9_JP_mHL => Sys2Proof.Machine.exec_pE9_JP_mHL s
  | .pEA_JP_PE_nn => Sys2Proof.Machine.exec_pEA_JP_PE_nn s
  | .pEB_EX_DE_HL => Sys2Proof.Machine.exec_pEB_EX_DE_HL s
  | .pEC_CALL_PE_nn => Sys2Proof.Machine.exec_pEC_CALL_PE_nn s
  | .pED_PREFIX_ED => Sys2Proof.Machine.exec_pED_PREFIX_ED s
  | .pEE_XOR_n => Sys2Proof.Machine.exec_pEE_XOR_n s
  | .pEF_RST_28H => Sys2Proof.Machine.exec_pEF_RST_28H s
  | .pF0_RET_P => Sys2Proof.Machine.exec_pF0_RET_P s
  | .pF1_POP_AF => Sys2Proof.Machine.exec_pF1_POP_AF s
  | .pF2_JP_P_nn => Sys2Proof.Machine.exec_pF2_JP_P_nn s
  | .pF3_DI => Sys2Proof.Machine.exec_pF3_DI s
  | .pF4_CALL_P_nn => Sys2Proof.Machine.exec_pF4_CALL_P_nn s
  | .pF5_PUSH_AF => Sys2Proof.Machine.exec_pF5_PUSH_AF s
  | .pF6_OR_n => Sys2Proof.Machine.exec_pF6_OR_n s
  | .pF7_RST_30H => Sys2Proof.Machine.exec_pF7_RST_30H s
  | .pF8_RET_M => Sys2Proof.Machine.exec_pF8_RET_M s
  | .pF9_LD_SP_HL => Sys2Proof.Machine.exec_pF9_LD_SP_HL s
  | .pFA_JP_M_nn => Sys2Proof.Machine.exec_pFA_JP_M_nn s
  | .pFB_EI => Sys2Proof.Machine.exec_pFB_EI s
  | .pFC_CALL_M_nn => Sys2Proof.Machine.exec_pFC_CALL_M_nn s
  | .pFD_PREFIX_FD => Sys2Proof.Machine.exec_pFD_PREFIX_FD s
  | .pFE_CP_n => Sys2Proof.Machine.exec_pFE_CP_n s
  | .pFF_RST_38H => Sys2Proof.Machine.exec_pFF_RST_38H s
  -- CB table
  | .cb00_RLC_B => Sys2Proof.Machine.exec_cb00_RLC_B s
  | .cb01_RLC_C => Sys2Proof.Machine.exec_cb01_RLC_C s
  | .cb02_RLC_D => Sys2Proof.Machine.exec_cb02_RLC_D s
  | .cb03_RLC_E => Sys2Proof.Machine.exec_cb03_RLC_E s
  | .cb04_RLC_H => Sys2Proof.Machine.exec_cb04_RLC_H s
  | .cb05_RLC_L => Sys2Proof.Machine.exec_cb05_RLC_L s
  | .cb06_RLC_mHL => Sys2Proof.Machine.exec_cb06_RLC_mHL s
  | .cb07_RLC_A => Sys2Proof.Machine.exec_cb07_RLC_A s
  | .cb08_RRC_B => Sys2Proof.Machine.exec_cb08_RRC_B s
  | .cb09_RRC_C => Sys2Proof.Machine.exec_cb09_RRC_C s
  | .cb0A_RRC_D => Sys2Proof.Machine.exec_cb0A_RRC_D s
  | .cb0B_RRC_E => Sys2Proof.Machine.exec_cb0B_RRC_E s
  | .cb0C_RRC_H => Sys2Proof.Machine.exec_cb0C_RRC_H s
  | .cb0D_RRC_L => Sys2Proof.Machine.exec_cb0D_RRC_L s
  | .cb0E_RRC_mHL => Sys2Proof.Machine.exec_cb0E_RRC_mHL s
  | .cb0F_RRC_A => Sys2Proof.Machine.exec_cb0F_RRC_A s
  | .cb10_RL_B => Sys2Proof.Machine.exec_cb10_RL_B s
  | .cb11_RL_C => Sys2Proof.Machine.exec_cb11_RL_C s
  | .cb12_RL_D => Sys2Proof.Machine.exec_cb12_RL_D s
  | .cb13_RL_E => Sys2Proof.Machine.exec_cb13_RL_E s
  | .cb14_RL_H => Sys2Proof.Machine.exec_cb14_RL_H s
  | .cb15_RL_L => Sys2Proof.Machine.exec_cb15_RL_L s
  | .cb16_RL_mHL => Sys2Proof.Machine.exec_cb16_RL_mHL s
  | .cb17_RL_A => Sys2Proof.Machine.exec_cb17_RL_A s
  | .cb18_RR_B => Sys2Proof.Machine.exec_cb18_RR_B s
  | .cb19_RR_C => Sys2Proof.Machine.exec_cb19_RR_C s
  | .cb1A_RR_D => Sys2Proof.Machine.exec_cb1A_RR_D s
  | .cb1B_RR_E => Sys2Proof.Machine.exec_cb1B_RR_E s
  | .cb1C_RR_H => Sys2Proof.Machine.exec_cb1C_RR_H s
  | .cb1D_RR_L => Sys2Proof.Machine.exec_cb1D_RR_L s
  | .cb1E_RR_mHL => Sys2Proof.Machine.exec_cb1E_RR_mHL s
  | .cb1F_RR_A => Sys2Proof.Machine.exec_cb1F_RR_A s
  | .cb20_SLA_B => Sys2Proof.Machine.exec_cb20_SLA_B s
  | .cb21_SLA_C => Sys2Proof.Machine.exec_cb21_SLA_C s
  | .cb22_SLA_D => Sys2Proof.Machine.exec_cb22_SLA_D s
  | .cb23_SLA_E => Sys2Proof.Machine.exec_cb23_SLA_E s
  | .cb24_SLA_H => Sys2Proof.Machine.exec_cb24_SLA_H s
  | .cb25_SLA_L => Sys2Proof.Machine.exec_cb25_SLA_L s
  | .cb26_SLA_mHL => Sys2Proof.Machine.exec_cb26_SLA_mHL s
  | .cb27_SLA_A => Sys2Proof.Machine.exec_cb27_SLA_A s
  | .cb28_SRA_B => Sys2Proof.Machine.exec_cb28_SRA_B s
  | .cb29_SRA_C => Sys2Proof.Machine.exec_cb29_SRA_C s
  | .cb2A_SRA_D => Sys2Proof.Machine.exec_cb2A_SRA_D s
  | .cb2B_SRA_E => Sys2Proof.Machine.exec_cb2B_SRA_E s
  | .cb2C_SRA_H => Sys2Proof.Machine.exec_cb2C_SRA_H s
  | .cb2D_SRA_L => Sys2Proof.Machine.exec_cb2D_SRA_L s
  | .cb2E_SRA_mHL => Sys2Proof.Machine.exec_cb2E_SRA_mHL s
  | .cb2F_SRA_A => Sys2Proof.Machine.exec_cb2F_SRA_A s
  | .cb30_SLL_B => Sys2Proof.Machine.exec_cb30_SLL_B s
  | .cb31_SLL_C => Sys2Proof.Machine.exec_cb31_SLL_C s
  | .cb32_SLL_D => Sys2Proof.Machine.exec_cb32_SLL_D s
  | .cb33_SLL_E => Sys2Proof.Machine.exec_cb33_SLL_E s
  | .cb34_SLL_H => Sys2Proof.Machine.exec_cb34_SLL_H s
  | .cb35_SLL_L => Sys2Proof.Machine.exec_cb35_SLL_L s
  | .cb36_SLL_mHL => Sys2Proof.Machine.exec_cb36_SLL_mHL s
  | .cb37_SLL_A => Sys2Proof.Machine.exec_cb37_SLL_A s
  | .cb38_SRL_B => Sys2Proof.Machine.exec_cb38_SRL_B s
  | .cb39_SRL_C => Sys2Proof.Machine.exec_cb39_SRL_C s
  | .cb3A_SRL_D => Sys2Proof.Machine.exec_cb3A_SRL_D s
  | .cb3B_SRL_E => Sys2Proof.Machine.exec_cb3B_SRL_E s
  | .cb3C_SRL_H => Sys2Proof.Machine.exec_cb3C_SRL_H s
  | .cb3D_SRL_L => Sys2Proof.Machine.exec_cb3D_SRL_L s
  | .cb3E_SRL_mHL => Sys2Proof.Machine.exec_cb3E_SRL_mHL s
  | .cb3F_SRL_A => Sys2Proof.Machine.exec_cb3F_SRL_A s
  | .cb40_BIT_0_B => Sys2Proof.Machine.exec_cb40_BIT_0_B s
  | .cb41_BIT_0_C => Sys2Proof.Machine.exec_cb41_BIT_0_C s
  | .cb42_BIT_0_D => Sys2Proof.Machine.exec_cb42_BIT_0_D s
  | .cb43_BIT_0_E => Sys2Proof.Machine.exec_cb43_BIT_0_E s
  | .cb44_BIT_0_H => Sys2Proof.Machine.exec_cb44_BIT_0_H s
  | .cb45_BIT_0_L => Sys2Proof.Machine.exec_cb45_BIT_0_L s
  | .cb46_BIT_0_mHL => Sys2Proof.Machine.exec_cb46_BIT_0_mHL s
  | .cb47_BIT_0_A => Sys2Proof.Machine.exec_cb47_BIT_0_A s
  | .cb48_BIT_1_B => Sys2Proof.Machine.exec_cb48_BIT_1_B s
  | .cb49_BIT_1_C => Sys2Proof.Machine.exec_cb49_BIT_1_C s
  | .cb4A_BIT_1_D => Sys2Proof.Machine.exec_cb4A_BIT_1_D s
  | .cb4B_BIT_1_E => Sys2Proof.Machine.exec_cb4B_BIT_1_E s
  | .cb4C_BIT_1_H => Sys2Proof.Machine.exec_cb4C_BIT_1_H s
  | .cb4D_BIT_1_L => Sys2Proof.Machine.exec_cb4D_BIT_1_L s
  | .cb4E_BIT_1_mHL => Sys2Proof.Machine.exec_cb4E_BIT_1_mHL s
  | .cb4F_BIT_1_A => Sys2Proof.Machine.exec_cb4F_BIT_1_A s
  | .cb50_BIT_2_B => Sys2Proof.Machine.exec_cb50_BIT_2_B s
  | .cb51_BIT_2_C => Sys2Proof.Machine.exec_cb51_BIT_2_C s
  | .cb52_BIT_2_D => Sys2Proof.Machine.exec_cb52_BIT_2_D s
  | .cb53_BIT_2_E => Sys2Proof.Machine.exec_cb53_BIT_2_E s
  | .cb54_BIT_2_H => Sys2Proof.Machine.exec_cb54_BIT_2_H s
  | .cb55_BIT_2_L => Sys2Proof.Machine.exec_cb55_BIT_2_L s
  | .cb56_BIT_2_mHL => Sys2Proof.Machine.exec_cb56_BIT_2_mHL s
  | .cb57_BIT_2_A => Sys2Proof.Machine.exec_cb57_BIT_2_A s
  | .cb58_BIT_3_B => Sys2Proof.Machine.exec_cb58_BIT_3_B s
  | .cb59_BIT_3_C => Sys2Proof.Machine.exec_cb59_BIT_3_C s
  | .cb5A_BIT_3_D => Sys2Proof.Machine.exec_cb5A_BIT_3_D s
  | .cb5B_BIT_3_E => Sys2Proof.Machine.exec_cb5B_BIT_3_E s
  | .cb5C_BIT_3_H => Sys2Proof.Machine.exec_cb5C_BIT_3_H s
  | .cb5D_BIT_3_L => Sys2Proof.Machine.exec_cb5D_BIT_3_L s
  | .cb5E_BIT_3_mHL => Sys2Proof.Machine.exec_cb5E_BIT_3_mHL s
  | .cb5F_BIT_3_A => Sys2Proof.Machine.exec_cb5F_BIT_3_A s
  | .cb60_BIT_4_B => Sys2Proof.Machine.exec_cb60_BIT_4_B s
  | .cb61_BIT_4_C => Sys2Proof.Machine.exec_cb61_BIT_4_C s
  | .cb62_BIT_4_D => Sys2Proof.Machine.exec_cb62_BIT_4_D s
  | .cb63_BIT_4_E => Sys2Proof.Machine.exec_cb63_BIT_4_E s
  | .cb64_BIT_4_H => Sys2Proof.Machine.exec_cb64_BIT_4_H s
  | .cb65_BIT_4_L => Sys2Proof.Machine.exec_cb65_BIT_4_L s
  | .cb66_BIT_4_mHL => Sys2Proof.Machine.exec_cb66_BIT_4_mHL s
  | .cb67_BIT_4_A => Sys2Proof.Machine.exec_cb67_BIT_4_A s
  | .cb68_BIT_5_B => Sys2Proof.Machine.exec_cb68_BIT_5_B s
  | .cb69_BIT_5_C => Sys2Proof.Machine.exec_cb69_BIT_5_C s
  | .cb6A_BIT_5_D => Sys2Proof.Machine.exec_cb6A_BIT_5_D s
  | .cb6B_BIT_5_E => Sys2Proof.Machine.exec_cb6B_BIT_5_E s
  | .cb6C_BIT_5_H => Sys2Proof.Machine.exec_cb6C_BIT_5_H s
  | .cb6D_BIT_5_L => Sys2Proof.Machine.exec_cb6D_BIT_5_L s
  | .cb6E_BIT_5_mHL => Sys2Proof.Machine.exec_cb6E_BIT_5_mHL s
  | .cb6F_BIT_5_A => Sys2Proof.Machine.exec_cb6F_BIT_5_A s
  | .cb70_BIT_6_B => Sys2Proof.Machine.exec_cb70_BIT_6_B s
  | .cb71_BIT_6_C => Sys2Proof.Machine.exec_cb71_BIT_6_C s
  | .cb72_BIT_6_D => Sys2Proof.Machine.exec_cb72_BIT_6_D s
  | .cb73_BIT_6_E => Sys2Proof.Machine.exec_cb73_BIT_6_E s
  | .cb74_BIT_6_H => Sys2Proof.Machine.exec_cb74_BIT_6_H s
  | .cb75_BIT_6_L => Sys2Proof.Machine.exec_cb75_BIT_6_L s
  | .cb76_BIT_6_mHL => Sys2Proof.Machine.exec_cb76_BIT_6_mHL s
  | .cb77_BIT_6_A => Sys2Proof.Machine.exec_cb77_BIT_6_A s
  | .cb78_BIT_7_B => Sys2Proof.Machine.exec_cb78_BIT_7_B s
  | .cb79_BIT_7_C => Sys2Proof.Machine.exec_cb79_BIT_7_C s
  | .cb7A_BIT_7_D => Sys2Proof.Machine.exec_cb7A_BIT_7_D s
  | .cb7B_BIT_7_E => Sys2Proof.Machine.exec_cb7B_BIT_7_E s
  | .cb7C_BIT_7_H => Sys2Proof.Machine.exec_cb7C_BIT_7_H s
  | .cb7D_BIT_7_L => Sys2Proof.Machine.exec_cb7D_BIT_7_L s
  | .cb7E_BIT_7_mHL => Sys2Proof.Machine.exec_cb7E_BIT_7_mHL s
  | .cb7F_BIT_7_A => Sys2Proof.Machine.exec_cb7F_BIT_7_A s
  | .cb80_RES_0_B => Sys2Proof.Machine.exec_cb80_RES_0_B s
  | .cb81_RES_0_C => Sys2Proof.Machine.exec_cb81_RES_0_C s
  | .cb82_RES_0_D => Sys2Proof.Machine.exec_cb82_RES_0_D s
  | .cb83_RES_0_E => Sys2Proof.Machine.exec_cb83_RES_0_E s
  | .cb84_RES_0_H => Sys2Proof.Machine.exec_cb84_RES_0_H s
  | .cb85_RES_0_L => Sys2Proof.Machine.exec_cb85_RES_0_L s
  | .cb86_RES_0_mHL => Sys2Proof.Machine.exec_cb86_RES_0_mHL s
  | .cb87_RES_0_A => Sys2Proof.Machine.exec_cb87_RES_0_A s
  | .cb88_RES_1_B => Sys2Proof.Machine.exec_cb88_RES_1_B s
  | .cb89_RES_1_C => Sys2Proof.Machine.exec_cb89_RES_1_C s
  | .cb8A_RES_1_D => Sys2Proof.Machine.exec_cb8A_RES_1_D s
  | .cb8B_RES_1_E => Sys2Proof.Machine.exec_cb8B_RES_1_E s
  | .cb8C_RES_1_H => Sys2Proof.Machine.exec_cb8C_RES_1_H s
  | .cb8D_RES_1_L => Sys2Proof.Machine.exec_cb8D_RES_1_L s
  | .cb8E_RES_1_mHL => Sys2Proof.Machine.exec_cb8E_RES_1_mHL s
  | .cb8F_RES_1_A => Sys2Proof.Machine.exec_cb8F_RES_1_A s
  | .cb90_RES_2_B => Sys2Proof.Machine.exec_cb90_RES_2_B s
  | .cb91_RES_2_C => Sys2Proof.Machine.exec_cb91_RES_2_C s
  | .cb92_RES_2_D => Sys2Proof.Machine.exec_cb92_RES_2_D s
  | .cb93_RES_2_E => Sys2Proof.Machine.exec_cb93_RES_2_E s
  | .cb94_RES_2_H => Sys2Proof.Machine.exec_cb94_RES_2_H s
  | .cb95_RES_2_L => Sys2Proof.Machine.exec_cb95_RES_2_L s
  | .cb96_RES_2_mHL => Sys2Proof.Machine.exec_cb96_RES_2_mHL s
  | .cb97_RES_2_A => Sys2Proof.Machine.exec_cb97_RES_2_A s
  | .cb98_RES_3_B => Sys2Proof.Machine.exec_cb98_RES_3_B s
  | .cb99_RES_3_C => Sys2Proof.Machine.exec_cb99_RES_3_C s
  | .cb9A_RES_3_D => Sys2Proof.Machine.exec_cb9A_RES_3_D s
  | .cb9B_RES_3_E => Sys2Proof.Machine.exec_cb9B_RES_3_E s
  | .cb9C_RES_3_H => Sys2Proof.Machine.exec_cb9C_RES_3_H s
  | .cb9D_RES_3_L => Sys2Proof.Machine.exec_cb9D_RES_3_L s
  | .cb9E_RES_3_mHL => Sys2Proof.Machine.exec_cb9E_RES_3_mHL s
  | .cb9F_RES_3_A => Sys2Proof.Machine.exec_cb9F_RES_3_A s
  | .cbA0_RES_4_B => Sys2Proof.Machine.exec_cbA0_RES_4_B s
  | .cbA1_RES_4_C => Sys2Proof.Machine.exec_cbA1_RES_4_C s
  | .cbA2_RES_4_D => Sys2Proof.Machine.exec_cbA2_RES_4_D s
  | .cbA3_RES_4_E => Sys2Proof.Machine.exec_cbA3_RES_4_E s
  | .cbA4_RES_4_H => Sys2Proof.Machine.exec_cbA4_RES_4_H s
  | .cbA5_RES_4_L => Sys2Proof.Machine.exec_cbA5_RES_4_L s
  | .cbA6_RES_4_mHL => Sys2Proof.Machine.exec_cbA6_RES_4_mHL s
  | .cbA7_RES_4_A => Sys2Proof.Machine.exec_cbA7_RES_4_A s
  | .cbA8_RES_5_B => Sys2Proof.Machine.exec_cbA8_RES_5_B s
  | .cbA9_RES_5_C => Sys2Proof.Machine.exec_cbA9_RES_5_C s
  | .cbAA_RES_5_D => Sys2Proof.Machine.exec_cbAA_RES_5_D s
  | .cbAB_RES_5_E => Sys2Proof.Machine.exec_cbAB_RES_5_E s
  | .cbAC_RES_5_H => Sys2Proof.Machine.exec_cbAC_RES_5_H s
  | .cbAD_RES_5_L => Sys2Proof.Machine.exec_cbAD_RES_5_L s
  | .cbAE_RES_5_mHL => Sys2Proof.Machine.exec_cbAE_RES_5_mHL s
  | .cbAF_RES_5_A => Sys2Proof.Machine.exec_cbAF_RES_5_A s
  | .cbB0_RES_6_B => Sys2Proof.Machine.exec_cbB0_RES_6_B s
  | .cbB1_RES_6_C => Sys2Proof.Machine.exec_cbB1_RES_6_C s
  | .cbB2_RES_6_D => Sys2Proof.Machine.exec_cbB2_RES_6_D s
  | .cbB3_RES_6_E => Sys2Proof.Machine.exec_cbB3_RES_6_E s
  | .cbB4_RES_6_H => Sys2Proof.Machine.exec_cbB4_RES_6_H s
  | .cbB5_RES_6_L => Sys2Proof.Machine.exec_cbB5_RES_6_L s
  | .cbB6_RES_6_mHL => Sys2Proof.Machine.exec_cbB6_RES_6_mHL s
  | .cbB7_RES_6_A => Sys2Proof.Machine.exec_cbB7_RES_6_A s
  | .cbB8_RES_7_B => Sys2Proof.Machine.exec_cbB8_RES_7_B s
  | .cbB9_RES_7_C => Sys2Proof.Machine.exec_cbB9_RES_7_C s
  | .cbBA_RES_7_D => Sys2Proof.Machine.exec_cbBA_RES_7_D s
  | .cbBB_RES_7_E => Sys2Proof.Machine.exec_cbBB_RES_7_E s
  | .cbBC_RES_7_H => Sys2Proof.Machine.exec_cbBC_RES_7_H s
  | .cbBD_RES_7_L => Sys2Proof.Machine.exec_cbBD_RES_7_L s
  | .cbBE_RES_7_mHL => Sys2Proof.Machine.exec_cbBE_RES_7_mHL s
  | .cbBF_RES_7_A => Sys2Proof.Machine.exec_cbBF_RES_7_A s
  | .cbC0_SET_0_B => Sys2Proof.Machine.exec_cbC0_SET_0_B s
  | .cbC1_SET_0_C => Sys2Proof.Machine.exec_cbC1_SET_0_C s
  | .cbC2_SET_0_D => Sys2Proof.Machine.exec_cbC2_SET_0_D s
  | .cbC3_SET_0_E => Sys2Proof.Machine.exec_cbC3_SET_0_E s
  | .cbC4_SET_0_H => Sys2Proof.Machine.exec_cbC4_SET_0_H s
  | .cbC5_SET_0_L => Sys2Proof.Machine.exec_cbC5_SET_0_L s
  | .cbC6_SET_0_mHL => Sys2Proof.Machine.exec_cbC6_SET_0_mHL s
  | .cbC7_SET_0_A => Sys2Proof.Machine.exec_cbC7_SET_0_A s
  | .cbC8_SET_1_B => Sys2Proof.Machine.exec_cbC8_SET_1_B s
  | .cbC9_SET_1_C => Sys2Proof.Machine.exec_cbC9_SET_1_C s
  | .cbCA_SET_1_D => Sys2Proof.Machine.exec_cbCA_SET_1_D s
  | .cbCB_SET_1_E => Sys2Proof.Machine.exec_cbCB_SET_1_E s
  | .cbCC_SET_1_H => Sys2Proof.Machine.exec_cbCC_SET_1_H s
  | .cbCD_SET_1_L => Sys2Proof.Machine.exec_cbCD_SET_1_L s
  | .cbCE_SET_1_mHL => Sys2Proof.Machine.exec_cbCE_SET_1_mHL s
  | .cbCF_SET_1_A => Sys2Proof.Machine.exec_cbCF_SET_1_A s
  | .cbD0_SET_2_B => Sys2Proof.Machine.exec_cbD0_SET_2_B s
  | .cbD1_SET_2_C => Sys2Proof.Machine.exec_cbD1_SET_2_C s
  | .cbD2_SET_2_D => Sys2Proof.Machine.exec_cbD2_SET_2_D s
  | .cbD3_SET_2_E => Sys2Proof.Machine.exec_cbD3_SET_2_E s
  | .cbD4_SET_2_H => Sys2Proof.Machine.exec_cbD4_SET_2_H s
  | .cbD5_SET_2_L => Sys2Proof.Machine.exec_cbD5_SET_2_L s
  | .cbD6_SET_2_mHL => Sys2Proof.Machine.exec_cbD6_SET_2_mHL s
  | .cbD7_SET_2_A => Sys2Proof.Machine.exec_cbD7_SET_2_A s
  | .cbD8_SET_3_B => Sys2Proof.Machine.exec_cbD8_SET_3_B s
  | .cbD9_SET_3_C => Sys2Proof.Machine.exec_cbD9_SET_3_C s
  | .cbDA_SET_3_D => Sys2Proof.Machine.exec_cbDA_SET_3_D s
  | .cbDB_SET_3_E => Sys2Proof.Machine.exec_cbDB_SET_3_E s
  | .cbDC_SET_3_H => Sys2Proof.Machine.exec_cbDC_SET_3_H s
  | .cbDD_SET_3_L => Sys2Proof.Machine.exec_cbDD_SET_3_L s
  | .cbDE_SET_3_mHL => Sys2Proof.Machine.exec_cbDE_SET_3_mHL s
  | .cbDF_SET_3_A => Sys2Proof.Machine.exec_cbDF_SET_3_A s
  | .cbE0_SET_4_B => Sys2Proof.Machine.exec_cbE0_SET_4_B s
  | .cbE1_SET_4_C => Sys2Proof.Machine.exec_cbE1_SET_4_C s
  | .cbE2_SET_4_D => Sys2Proof.Machine.exec_cbE2_SET_4_D s
  | .cbE3_SET_4_E => Sys2Proof.Machine.exec_cbE3_SET_4_E s
  | .cbE4_SET_4_H => Sys2Proof.Machine.exec_cbE4_SET_4_H s
  | .cbE5_SET_4_L => Sys2Proof.Machine.exec_cbE5_SET_4_L s
  | .cbE6_SET_4_mHL => Sys2Proof.Machine.exec_cbE6_SET_4_mHL s
  | .cbE7_SET_4_A => Sys2Proof.Machine.exec_cbE7_SET_4_A s
  | .cbE8_SET_5_B => Sys2Proof.Machine.exec_cbE8_SET_5_B s
  | .cbE9_SET_5_C => Sys2Proof.Machine.exec_cbE9_SET_5_C s
  | .cbEA_SET_5_D => Sys2Proof.Machine.exec_cbEA_SET_5_D s
  | .cbEB_SET_5_E => Sys2Proof.Machine.exec_cbEB_SET_5_E s
  | .cbEC_SET_5_H => Sys2Proof.Machine.exec_cbEC_SET_5_H s
  | .cbED_SET_5_L => Sys2Proof.Machine.exec_cbED_SET_5_L s
  | .cbEE_SET_5_mHL => Sys2Proof.Machine.exec_cbEE_SET_5_mHL s
  | .cbEF_SET_5_A => Sys2Proof.Machine.exec_cbEF_SET_5_A s
  | .cbF0_SET_6_B => Sys2Proof.Machine.exec_cbF0_SET_6_B s
  | .cbF1_SET_6_C => Sys2Proof.Machine.exec_cbF1_SET_6_C s
  | .cbF2_SET_6_D => Sys2Proof.Machine.exec_cbF2_SET_6_D s
  | .cbF3_SET_6_E => Sys2Proof.Machine.exec_cbF3_SET_6_E s
  | .cbF4_SET_6_H => Sys2Proof.Machine.exec_cbF4_SET_6_H s
  | .cbF5_SET_6_L => Sys2Proof.Machine.exec_cbF5_SET_6_L s
  | .cbF6_SET_6_mHL => Sys2Proof.Machine.exec_cbF6_SET_6_mHL s
  | .cbF7_SET_6_A => Sys2Proof.Machine.exec_cbF7_SET_6_A s
  | .cbF8_SET_7_B => Sys2Proof.Machine.exec_cbF8_SET_7_B s
  | .cbF9_SET_7_C => Sys2Proof.Machine.exec_cbF9_SET_7_C s
  | .cbFA_SET_7_D => Sys2Proof.Machine.exec_cbFA_SET_7_D s
  | .cbFB_SET_7_E => Sys2Proof.Machine.exec_cbFB_SET_7_E s
  | .cbFC_SET_7_H => Sys2Proof.Machine.exec_cbFC_SET_7_H s
  | .cbFD_SET_7_L => Sys2Proof.Machine.exec_cbFD_SET_7_L s
  | .cbFE_SET_7_mHL => Sys2Proof.Machine.exec_cbFE_SET_7_mHL s
  | .cbFF_SET_7_A => Sys2Proof.Machine.exec_cbFF_SET_7_A s
  -- ED table
  | .ed00_PLACEHOLDER => Sys2Proof.Machine.exec_ed00_PLACEHOLDER s
  | .ed01_PLACEHOLDER => Sys2Proof.Machine.exec_ed01_PLACEHOLDER s
  | .ed02_PLACEHOLDER => Sys2Proof.Machine.exec_ed02_PLACEHOLDER s
  | .ed03_PLACEHOLDER => Sys2Proof.Machine.exec_ed03_PLACEHOLDER s
  | .ed04_PLACEHOLDER => Sys2Proof.Machine.exec_ed04_PLACEHOLDER s
  | .ed05_PLACEHOLDER => Sys2Proof.Machine.exec_ed05_PLACEHOLDER s
  | .ed06_PLACEHOLDER => Sys2Proof.Machine.exec_ed06_PLACEHOLDER s
  | .ed07_PLACEHOLDER => Sys2Proof.Machine.exec_ed07_PLACEHOLDER s
  | .ed08_PLACEHOLDER => Sys2Proof.Machine.exec_ed08_PLACEHOLDER s
  | .ed09_PLACEHOLDER => Sys2Proof.Machine.exec_ed09_PLACEHOLDER s
  | .ed0A_PLACEHOLDER => Sys2Proof.Machine.exec_ed0A_PLACEHOLDER s
  | .ed0B_PLACEHOLDER => Sys2Proof.Machine.exec_ed0B_PLACEHOLDER s
  | .ed0C_PLACEHOLDER => Sys2Proof.Machine.exec_ed0C_PLACEHOLDER s
  | .ed0D_PLACEHOLDER => Sys2Proof.Machine.exec_ed0D_PLACEHOLDER s
  | .ed0E_PLACEHOLDER => Sys2Proof.Machine.exec_ed0E_PLACEHOLDER s
  | .ed0F_PLACEHOLDER => Sys2Proof.Machine.exec_ed0F_PLACEHOLDER s
  | .ed10_PLACEHOLDER => Sys2Proof.Machine.exec_ed10_PLACEHOLDER s
  | .ed11_PLACEHOLDER => Sys2Proof.Machine.exec_ed11_PLACEHOLDER s
  | .ed12_PLACEHOLDER => Sys2Proof.Machine.exec_ed12_PLACEHOLDER s
  | .ed13_PLACEHOLDER => Sys2Proof.Machine.exec_ed13_PLACEHOLDER s
  | .ed14_PLACEHOLDER => Sys2Proof.Machine.exec_ed14_PLACEHOLDER s
  | .ed15_PLACEHOLDER => Sys2Proof.Machine.exec_ed15_PLACEHOLDER s
  | .ed16_PLACEHOLDER => Sys2Proof.Machine.exec_ed16_PLACEHOLDER s
  | .ed17_PLACEHOLDER => Sys2Proof.Machine.exec_ed17_PLACEHOLDER s
  | .ed18_PLACEHOLDER => Sys2Proof.Machine.exec_ed18_PLACEHOLDER s
  | .ed19_PLACEHOLDER => Sys2Proof.Machine.exec_ed19_PLACEHOLDER s
  | .ed1A_PLACEHOLDER => Sys2Proof.Machine.exec_ed1A_PLACEHOLDER s
  | .ed1B_PLACEHOLDER => Sys2Proof.Machine.exec_ed1B_PLACEHOLDER s
  | .ed1C_PLACEHOLDER => Sys2Proof.Machine.exec_ed1C_PLACEHOLDER s
  | .ed1D_PLACEHOLDER => Sys2Proof.Machine.exec_ed1D_PLACEHOLDER s
  | .ed1E_PLACEHOLDER => Sys2Proof.Machine.exec_ed1E_PLACEHOLDER s
  | .ed1F_PLACEHOLDER => Sys2Proof.Machine.exec_ed1F_PLACEHOLDER s
  | .ed20_PLACEHOLDER => Sys2Proof.Machine.exec_ed20_PLACEHOLDER s
  | .ed21_PLACEHOLDER => Sys2Proof.Machine.exec_ed21_PLACEHOLDER s
  | .ed22_PLACEHOLDER => Sys2Proof.Machine.exec_ed22_PLACEHOLDER s
  | .ed23_PLACEHOLDER => Sys2Proof.Machine.exec_ed23_PLACEHOLDER s
  | .ed24_PLACEHOLDER => Sys2Proof.Machine.exec_ed24_PLACEHOLDER s
  | .ed25_PLACEHOLDER => Sys2Proof.Machine.exec_ed25_PLACEHOLDER s
  | .ed26_PLACEHOLDER => Sys2Proof.Machine.exec_ed26_PLACEHOLDER s
  | .ed27_PLACEHOLDER => Sys2Proof.Machine.exec_ed27_PLACEHOLDER s
  | .ed28_PLACEHOLDER => Sys2Proof.Machine.exec_ed28_PLACEHOLDER s
  | .ed29_PLACEHOLDER => Sys2Proof.Machine.exec_ed29_PLACEHOLDER s
  | .ed2A_PLACEHOLDER => Sys2Proof.Machine.exec_ed2A_PLACEHOLDER s
  | .ed2B_PLACEHOLDER => Sys2Proof.Machine.exec_ed2B_PLACEHOLDER s
  | .ed2C_PLACEHOLDER => Sys2Proof.Machine.exec_ed2C_PLACEHOLDER s
  | .ed2D_PLACEHOLDER => Sys2Proof.Machine.exec_ed2D_PLACEHOLDER s
  | .ed2E_PLACEHOLDER => Sys2Proof.Machine.exec_ed2E_PLACEHOLDER s
  | .ed2F_PLACEHOLDER => Sys2Proof.Machine.exec_ed2F_PLACEHOLDER s
  | .ed30_PLACEHOLDER => Sys2Proof.Machine.exec_ed30_PLACEHOLDER s
  | .ed31_PLACEHOLDER => Sys2Proof.Machine.exec_ed31_PLACEHOLDER s
  | .ed32_PLACEHOLDER => Sys2Proof.Machine.exec_ed32_PLACEHOLDER s
  | .ed33_PLACEHOLDER => Sys2Proof.Machine.exec_ed33_PLACEHOLDER s
  | .ed34_PLACEHOLDER => Sys2Proof.Machine.exec_ed34_PLACEHOLDER s
  | .ed35_PLACEHOLDER => Sys2Proof.Machine.exec_ed35_PLACEHOLDER s
  | .ed36_PLACEHOLDER => Sys2Proof.Machine.exec_ed36_PLACEHOLDER s
  | .ed37_PLACEHOLDER => Sys2Proof.Machine.exec_ed37_PLACEHOLDER s
  | .ed38_PLACEHOLDER => Sys2Proof.Machine.exec_ed38_PLACEHOLDER s
  | .ed39_PLACEHOLDER => Sys2Proof.Machine.exec_ed39_PLACEHOLDER s
  | .ed3A_PLACEHOLDER => Sys2Proof.Machine.exec_ed3A_PLACEHOLDER s
  | .ed3B_PLACEHOLDER => Sys2Proof.Machine.exec_ed3B_PLACEHOLDER s
  | .ed3C_PLACEHOLDER => Sys2Proof.Machine.exec_ed3C_PLACEHOLDER s
  | .ed3D_PLACEHOLDER => Sys2Proof.Machine.exec_ed3D_PLACEHOLDER s
  | .ed3E_PLACEHOLDER => Sys2Proof.Machine.exec_ed3E_PLACEHOLDER s
  | .ed3F_PLACEHOLDER => Sys2Proof.Machine.exec_ed3F_PLACEHOLDER s
  | .ed40_IN_B_mC => Sys2Proof.Machine.exec_ed40_IN_B_mC s
  | .ed41_OUT_mC_B => Sys2Proof.Machine.exec_ed41_OUT_mC_B s
  | .ed42_SBC_HL_BC => Sys2Proof.Machine.exec_ed42_SBC_HL_BC s
  | .ed43_LD_mnn_BC => Sys2Proof.Machine.exec_ed43_LD_mnn_BC s
  | .ed44_NEG => Sys2Proof.Machine.exec_ed44_NEG s
  | .ed45_RETN => Sys2Proof.Machine.exec_ed45_RETN s
  | .ed46_IM_0 => Sys2Proof.Machine.exec_ed46_IM_0 s
  | .ed47_LD_I_A => Sys2Proof.Machine.exec_ed47_LD_I_A s
  | .ed48_IN_C_mC => Sys2Proof.Machine.exec_ed48_IN_C_mC s
  | .ed49_OUT_mC_C => Sys2Proof.Machine.exec_ed49_OUT_mC_C s
  | .ed4A_ADC_HL_BC => Sys2Proof.Machine.exec_ed4A_ADC_HL_BC s
  | .ed4B_LD_BC_mnn => Sys2Proof.Machine.exec_ed4B_LD_BC_mnn s
  | .ed4C_NEG => Sys2Proof.Machine.exec_ed4C_NEG s
  | .ed4D_RETI => Sys2Proof.Machine.exec_ed4D_RETI s
  | .ed4E_IM_0 => Sys2Proof.Machine.exec_ed4E_IM_0 s
  | .ed4F_LD_R_A => Sys2Proof.Machine.exec_ed4F_LD_R_A s
  | .ed50_IN_D_mC => Sys2Proof.Machine.exec_ed50_IN_D_mC s
  | .ed51_OUT_mC_D => Sys2Proof.Machine.exec_ed51_OUT_mC_D s
  | .ed52_SBC_HL_DE => Sys2Proof.Machine.exec_ed52_SBC_HL_DE s
  | .ed53_LD_mnn_DE => Sys2Proof.Machine.exec_ed53_LD_mnn_DE s
  | .ed54_NEG => Sys2Proof.Machine.exec_ed54_NEG s
  | .ed55_RETN => Sys2Proof.Machine.exec_ed55_RETN s
  | .ed56_IM_1 => Sys2Proof.Machine.exec_ed56_IM_1 s
  | .ed57_LD_A_I => Sys2Proof.Machine.exec_ed57_LD_A_I s
  | .ed58_IN_E_mC => Sys2Proof.Machine.exec_ed58_IN_E_mC s
  | .ed59_OUT_mC_E => Sys2Proof.Machine.exec_ed59_OUT_mC_E s
  | .ed5A_ADC_HL_DE => Sys2Proof.Machine.exec_ed5A_ADC_HL_DE s
  | .ed5B_LD_DE_mnn => Sys2Proof.Machine.exec_ed5B_LD_DE_mnn s
  | .ed5C_NEG => Sys2Proof.Machine.exec_ed5C_NEG s
  | .ed5D_RETN => Sys2Proof.Machine.exec_ed5D_RETN s
  | .ed5E_IM_2 => Sys2Proof.Machine.exec_ed5E_IM_2 s
  | .ed5F_LD_A_R => Sys2Proof.Machine.exec_ed5F_LD_A_R s
  | .ed60_IN_H_mC => Sys2Proof.Machine.exec_ed60_IN_H_mC s
  | .ed61_OUT_mC_H => Sys2Proof.Machine.exec_ed61_OUT_mC_H s
  | .ed62_SBC_HL_HL => Sys2Proof.Machine.exec_ed62_SBC_HL_HL s
  | .ed63_LD_mnn_HL => Sys2Proof.Machine.exec_ed63_LD_mnn_HL s
  | .ed64_NEG => Sys2Proof.Machine.exec_ed64_NEG s
  | .ed65_RETN => Sys2Proof.Machine.exec_ed65_RETN s
  | .ed66_IM_0 => Sys2Proof.Machine.exec_ed66_IM_0 s
  | .ed67_RRD => Sys2Proof.Machine.exec_ed67_RRD s
  | .ed68_IN_L_mC => Sys2Proof.Machine.exec_ed68_IN_L_mC s
  | .ed69_OUT_mC_L => Sys2Proof.Machine.exec_ed69_OUT_mC_L s
  | .ed6A_ADC_HL_HL => Sys2Proof.Machine.exec_ed6A_ADC_HL_HL s
  | .ed6B_LD_HL_mnn => Sys2Proof.Machine.exec_ed6B_LD_HL_mnn s
  | .ed6C_NEG => Sys2Proof.Machine.exec_ed6C_NEG s
  | .ed6D_RETN => Sys2Proof.Machine.exec_ed6D_RETN s
  | .ed6E_IM_0 => Sys2Proof.Machine.exec_ed6E_IM_0 s
  | .ed6F_RLD => Sys2Proof.Machine.exec_ed6F_RLD s
  | .ed70_IN_mC => Sys2Proof.Machine.exec_ed70_IN_mC s
  | .ed71_OUT_mC_0 => Sys2Proof.Machine.exec_ed71_OUT_mC_0 s
  | .ed72_SBC_HL_SP => Sys2Proof.Machine.exec_ed72_SBC_HL_SP s
  | .ed73_LD_mnn_SP => Sys2Proof.Machine.exec_ed73_LD_mnn_SP s
  | .ed74_NEG => Sys2Proof.Machine.exec_ed74_NEG s
  | .ed75_RETN => Sys2Proof.Machine.exec_ed75_RETN s
  | .ed76_IM_1 => Sys2Proof.Machine.exec_ed76_IM_1 s
  | .ed77_PLACEHOLDER => Sys2Proof.Machine.exec_ed77_PLACEHOLDER s
  | .ed78_IN_A_mC => Sys2Proof.Machine.exec_ed78_IN_A_mC s
  | .ed79_OUT_mC_A => Sys2Proof.Machine.exec_ed79_OUT_mC_A s
  | .ed7A_ADC_HL_SP => Sys2Proof.Machine.exec_ed7A_ADC_HL_SP s
  | .ed7B_LD_SP_mnn => Sys2Proof.Machine.exec_ed7B_LD_SP_mnn s
  | .ed7C_NEG => Sys2Proof.Machine.exec_ed7C_NEG s
  | .ed7D_RETN => Sys2Proof.Machine.exec_ed7D_RETN s
  | .ed7E_IM_2 => Sys2Proof.Machine.exec_ed7E_IM_2 s
  | .ed7F_PLACEHOLDER => Sys2Proof.Machine.exec_ed7F_PLACEHOLDER s
  | .ed80_PLACEHOLDER => Sys2Proof.Machine.exec_ed80_PLACEHOLDER s
  | .ed81_PLACEHOLDER => Sys2Proof.Machine.exec_ed81_PLACEHOLDER s
  | .ed82_PLACEHOLDER => Sys2Proof.Machine.exec_ed82_PLACEHOLDER s
  | .ed83_PLACEHOLDER => Sys2Proof.Machine.exec_ed83_PLACEHOLDER s
  | .ed84_PLACEHOLDER => Sys2Proof.Machine.exec_ed84_PLACEHOLDER s
  | .ed85_PLACEHOLDER => Sys2Proof.Machine.exec_ed85_PLACEHOLDER s
  | .ed86_PLACEHOLDER => Sys2Proof.Machine.exec_ed86_PLACEHOLDER s
  | .ed87_PLACEHOLDER => Sys2Proof.Machine.exec_ed87_PLACEHOLDER s
  | .ed88_PLACEHOLDER => Sys2Proof.Machine.exec_ed88_PLACEHOLDER s
  | .ed89_PLACEHOLDER => Sys2Proof.Machine.exec_ed89_PLACEHOLDER s
  | .ed8A_PLACEHOLDER => Sys2Proof.Machine.exec_ed8A_PLACEHOLDER s
  | .ed8B_PLACEHOLDER => Sys2Proof.Machine.exec_ed8B_PLACEHOLDER s
  | .ed8C_PLACEHOLDER => Sys2Proof.Machine.exec_ed8C_PLACEHOLDER s
  | .ed8D_PLACEHOLDER => Sys2Proof.Machine.exec_ed8D_PLACEHOLDER s
  | .ed8E_PLACEHOLDER => Sys2Proof.Machine.exec_ed8E_PLACEHOLDER s
  | .ed8F_PLACEHOLDER => Sys2Proof.Machine.exec_ed8F_PLACEHOLDER s
  | .ed90_PLACEHOLDER => Sys2Proof.Machine.exec_ed90_PLACEHOLDER s
  | .ed91_PLACEHOLDER => Sys2Proof.Machine.exec_ed91_PLACEHOLDER s
  | .ed92_PLACEHOLDER => Sys2Proof.Machine.exec_ed92_PLACEHOLDER s
  | .ed93_PLACEHOLDER => Sys2Proof.Machine.exec_ed93_PLACEHOLDER s
  | .ed94_PLACEHOLDER => Sys2Proof.Machine.exec_ed94_PLACEHOLDER s
  | .ed95_PLACEHOLDER => Sys2Proof.Machine.exec_ed95_PLACEHOLDER s
  | .ed96_PLACEHOLDER => Sys2Proof.Machine.exec_ed96_PLACEHOLDER s
  | .ed97_PLACEHOLDER => Sys2Proof.Machine.exec_ed97_PLACEHOLDER s
  | .ed98_PLACEHOLDER => Sys2Proof.Machine.exec_ed98_PLACEHOLDER s
  | .ed99_PLACEHOLDER => Sys2Proof.Machine.exec_ed99_PLACEHOLDER s
  | .ed9A_PLACEHOLDER => Sys2Proof.Machine.exec_ed9A_PLACEHOLDER s
  | .ed9B_PLACEHOLDER => Sys2Proof.Machine.exec_ed9B_PLACEHOLDER s
  | .ed9C_PLACEHOLDER => Sys2Proof.Machine.exec_ed9C_PLACEHOLDER s
  | .ed9D_PLACEHOLDER => Sys2Proof.Machine.exec_ed9D_PLACEHOLDER s
  | .ed9E_PLACEHOLDER => Sys2Proof.Machine.exec_ed9E_PLACEHOLDER s
  | .ed9F_PLACEHOLDER => Sys2Proof.Machine.exec_ed9F_PLACEHOLDER s
  | .edA0_LDI => Sys2Proof.Machine.exec_edA0_LDI s
  | .edA1_CPI => Sys2Proof.Machine.exec_edA1_CPI s
  | .edA2_INI => Sys2Proof.Machine.exec_edA2_INI s
  | .edA3_OUTI => Sys2Proof.Machine.exec_edA3_OUTI s
  | .edA4_PLACEHOLDER => Sys2Proof.Machine.exec_edA4_PLACEHOLDER s
  | .edA5_PLACEHOLDER => Sys2Proof.Machine.exec_edA5_PLACEHOLDER s
  | .edA6_PLACEHOLDER => Sys2Proof.Machine.exec_edA6_PLACEHOLDER s
  | .edA7_PLACEHOLDER => Sys2Proof.Machine.exec_edA7_PLACEHOLDER s
  | .edA8_LDD => Sys2Proof.Machine.exec_edA8_LDD s
  | .edA9_CPD => Sys2Proof.Machine.exec_edA9_CPD s
  | .edAA_IND => Sys2Proof.Machine.exec_edAA_IND s
  | .edAB_OUTD => Sys2Proof.Machine.exec_edAB_OUTD s
  | .edAC_PLACEHOLDER => Sys2Proof.Machine.exec_edAC_PLACEHOLDER s
  | .edAD_PLACEHOLDER => Sys2Proof.Machine.exec_edAD_PLACEHOLDER s
  | .edAE_PLACEHOLDER => Sys2Proof.Machine.exec_edAE_PLACEHOLDER s
  | .edAF_PLACEHOLDER => Sys2Proof.Machine.exec_edAF_PLACEHOLDER s
  | .edB0_LDIR => Sys2Proof.Machine.exec_edB0_LDIR s
  | .edB1_CPIR => Sys2Proof.Machine.exec_edB1_CPIR s
  | .edB2_INIR => Sys2Proof.Machine.exec_edB2_INIR s
  | .edB3_OTIR => Sys2Proof.Machine.exec_edB3_OTIR s
  | .edB4_PLACEHOLDER => Sys2Proof.Machine.exec_edB4_PLACEHOLDER s
  | .edB5_PLACEHOLDER => Sys2Proof.Machine.exec_edB5_PLACEHOLDER s
  | .edB6_PLACEHOLDER => Sys2Proof.Machine.exec_edB6_PLACEHOLDER s
  | .edB7_PLACEHOLDER => Sys2Proof.Machine.exec_edB7_PLACEHOLDER s
  | .edB8_LDDR => Sys2Proof.Machine.exec_edB8_LDDR s
  | .edB9_CPDR => Sys2Proof.Machine.exec_edB9_CPDR s
  | .edBA_INDR => Sys2Proof.Machine.exec_edBA_INDR s
  | .edBB_OTDR => Sys2Proof.Machine.exec_edBB_OTDR s
  | .edBC_PLACEHOLDER => Sys2Proof.Machine.exec_edBC_PLACEHOLDER s
  | .edBD_PLACEHOLDER => Sys2Proof.Machine.exec_edBD_PLACEHOLDER s
  | .edBE_PLACEHOLDER => Sys2Proof.Machine.exec_edBE_PLACEHOLDER s
  | .edBF_PLACEHOLDER => Sys2Proof.Machine.exec_edBF_PLACEHOLDER s
  | .edC0_PLACEHOLDER => Sys2Proof.Machine.exec_edC0_PLACEHOLDER s
  | .edC1_PLACEHOLDER => Sys2Proof.Machine.exec_edC1_PLACEHOLDER s
  | .edC2_PLACEHOLDER => Sys2Proof.Machine.exec_edC2_PLACEHOLDER s
  | .edC3_PLACEHOLDER => Sys2Proof.Machine.exec_edC3_PLACEHOLDER s
  | .edC4_PLACEHOLDER => Sys2Proof.Machine.exec_edC4_PLACEHOLDER s
  | .edC5_PLACEHOLDER => Sys2Proof.Machine.exec_edC5_PLACEHOLDER s
  | .edC6_PLACEHOLDER => Sys2Proof.Machine.exec_edC6_PLACEHOLDER s
  | .edC7_PLACEHOLDER => Sys2Proof.Machine.exec_edC7_PLACEHOLDER s
  | .edC8_PLACEHOLDER => Sys2Proof.Machine.exec_edC8_PLACEHOLDER s
  | .edC9_PLACEHOLDER => Sys2Proof.Machine.exec_edC9_PLACEHOLDER s
  | .edCA_PLACEHOLDER => Sys2Proof.Machine.exec_edCA_PLACEHOLDER s
  | .edCB_PLACEHOLDER => Sys2Proof.Machine.exec_edCB_PLACEHOLDER s
  | .edCC_PLACEHOLDER => Sys2Proof.Machine.exec_edCC_PLACEHOLDER s
  | .edCD_PLACEHOLDER => Sys2Proof.Machine.exec_edCD_PLACEHOLDER s
  | .edCE_PLACEHOLDER => Sys2Proof.Machine.exec_edCE_PLACEHOLDER s
  | .edCF_PLACEHOLDER => Sys2Proof.Machine.exec_edCF_PLACEHOLDER s
  | .edD0_PLACEHOLDER => Sys2Proof.Machine.exec_edD0_PLACEHOLDER s
  | .edD1_PLACEHOLDER => Sys2Proof.Machine.exec_edD1_PLACEHOLDER s
  | .edD2_PLACEHOLDER => Sys2Proof.Machine.exec_edD2_PLACEHOLDER s
  | .edD3_PLACEHOLDER => Sys2Proof.Machine.exec_edD3_PLACEHOLDER s
  | .edD4_PLACEHOLDER => Sys2Proof.Machine.exec_edD4_PLACEHOLDER s
  | .edD5_PLACEHOLDER => Sys2Proof.Machine.exec_edD5_PLACEHOLDER s
  | .edD6_PLACEHOLDER => Sys2Proof.Machine.exec_edD6_PLACEHOLDER s
  | .edD7_PLACEHOLDER => Sys2Proof.Machine.exec_edD7_PLACEHOLDER s
  | .edD8_PLACEHOLDER => Sys2Proof.Machine.exec_edD8_PLACEHOLDER s
  | .edD9_PLACEHOLDER => Sys2Proof.Machine.exec_edD9_PLACEHOLDER s
  | .edDA_PLACEHOLDER => Sys2Proof.Machine.exec_edDA_PLACEHOLDER s
  | .edDB_PLACEHOLDER => Sys2Proof.Machine.exec_edDB_PLACEHOLDER s
  | .edDC_PLACEHOLDER => Sys2Proof.Machine.exec_edDC_PLACEHOLDER s
  | .edDD_PLACEHOLDER => Sys2Proof.Machine.exec_edDD_PLACEHOLDER s
  | .edDE_PLACEHOLDER => Sys2Proof.Machine.exec_edDE_PLACEHOLDER s
  | .edDF_PLACEHOLDER => Sys2Proof.Machine.exec_edDF_PLACEHOLDER s
  | .edE0_PLACEHOLDER => Sys2Proof.Machine.exec_edE0_PLACEHOLDER s
  | .edE1_PLACEHOLDER => Sys2Proof.Machine.exec_edE1_PLACEHOLDER s
  | .edE2_PLACEHOLDER => Sys2Proof.Machine.exec_edE2_PLACEHOLDER s
  | .edE3_PLACEHOLDER => Sys2Proof.Machine.exec_edE3_PLACEHOLDER s
  | .edE4_PLACEHOLDER => Sys2Proof.Machine.exec_edE4_PLACEHOLDER s
  | .edE5_PLACEHOLDER => Sys2Proof.Machine.exec_edE5_PLACEHOLDER s
  | .edE6_PLACEHOLDER => Sys2Proof.Machine.exec_edE6_PLACEHOLDER s
  | .edE7_PLACEHOLDER => Sys2Proof.Machine.exec_edE7_PLACEHOLDER s
  | .edE8_PLACEHOLDER => Sys2Proof.Machine.exec_edE8_PLACEHOLDER s
  | .edE9_PLACEHOLDER => Sys2Proof.Machine.exec_edE9_PLACEHOLDER s
  | .edEA_PLACEHOLDER => Sys2Proof.Machine.exec_edEA_PLACEHOLDER s
  | .edEB_PLACEHOLDER => Sys2Proof.Machine.exec_edEB_PLACEHOLDER s
  | .edEC_PLACEHOLDER => Sys2Proof.Machine.exec_edEC_PLACEHOLDER s
  | .edED_PLACEHOLDER => Sys2Proof.Machine.exec_edED_PLACEHOLDER s
  | .edEE_PLACEHOLDER => Sys2Proof.Machine.exec_edEE_PLACEHOLDER s
  | .edEF_PLACEHOLDER => Sys2Proof.Machine.exec_edEF_PLACEHOLDER s
  | .edF0_PLACEHOLDER => Sys2Proof.Machine.exec_edF0_PLACEHOLDER s
  | .edF1_PLACEHOLDER => Sys2Proof.Machine.exec_edF1_PLACEHOLDER s
  | .edF2_PLACEHOLDER => Sys2Proof.Machine.exec_edF2_PLACEHOLDER s
  | .edF3_PLACEHOLDER => Sys2Proof.Machine.exec_edF3_PLACEHOLDER s
  | .edF4_PLACEHOLDER => Sys2Proof.Machine.exec_edF4_PLACEHOLDER s
  | .edF5_PLACEHOLDER => Sys2Proof.Machine.exec_edF5_PLACEHOLDER s
  | .edF6_PLACEHOLDER => Sys2Proof.Machine.exec_edF6_PLACEHOLDER s
  | .edF7_PLACEHOLDER => Sys2Proof.Machine.exec_edF7_PLACEHOLDER s
  | .edF8_PLACEHOLDER => Sys2Proof.Machine.exec_edF8_PLACEHOLDER s
  | .edF9_PLACEHOLDER => Sys2Proof.Machine.exec_edF9_PLACEHOLDER s
  | .edFA_PLACEHOLDER => Sys2Proof.Machine.exec_edFA_PLACEHOLDER s
  | .edFB_PLACEHOLDER => Sys2Proof.Machine.exec_edFB_PLACEHOLDER s
  | .edFC_PLACEHOLDER => Sys2Proof.Machine.exec_edFC_PLACEHOLDER s
  | .edFD_PLACEHOLDER => Sys2Proof.Machine.exec_edFD_PLACEHOLDER s
  | .edFE_PLACEHOLDER => Sys2Proof.Machine.exec_edFE_PLACEHOLDER s
  | .edFF_PLACEHOLDER => Sys2Proof.Machine.exec_edFF_PLACEHOLDER s
  -- DD table (index register IX)
  | .dd00_NOP => Sys2Proof.Machine.exec_dd00_NOP s
  | .dd01_LD_BC_nn => Sys2Proof.Machine.exec_dd01_LD_BC_nn s
  | .dd02_LD_mBC_A => Sys2Proof.Machine.exec_dd02_LD_mBC_A s
  | .dd03_INC_BC => Sys2Proof.Machine.exec_dd03_INC_BC s
  | .dd04_INC_B => Sys2Proof.Machine.exec_dd04_INC_B s
  | .dd05_DEC_B => Sys2Proof.Machine.exec_dd05_DEC_B s
  | .dd06_LD_B_n => Sys2Proof.Machine.exec_dd06_LD_B_n s
  | .dd07_RLCA => Sys2Proof.Machine.exec_dd07_RLCA s
  | .dd08_EX_AF_AFx => Sys2Proof.Machine.exec_dd08_EX_AF_AFx s
  | .dd09_ADD_IX_BC => Sys2Proof.Machine.exec_dd09_ADD_IX_BC s
  | .dd0A_LD_A_mBC => Sys2Proof.Machine.exec_dd0A_LD_A_mBC s
  | .dd0B_DEC_BC => Sys2Proof.Machine.exec_dd0B_DEC_BC s
  | .dd0C_INC_C => Sys2Proof.Machine.exec_dd0C_INC_C s
  | .dd0D_DEC_C => Sys2Proof.Machine.exec_dd0D_DEC_C s
  | .dd0E_LD_C_n => Sys2Proof.Machine.exec_dd0E_LD_C_n s
  | .dd0F_RRCA => Sys2Proof.Machine.exec_dd0F_RRCA s
  | .dd10_DJNZ_e => Sys2Proof.Machine.exec_dd10_DJNZ_e s
  | .dd11_LD_DE_nn => Sys2Proof.Machine.exec_dd11_LD_DE_nn s
  | .dd12_LD_mDE_A => Sys2Proof.Machine.exec_dd12_LD_mDE_A s
  | .dd13_INC_DE => Sys2Proof.Machine.exec_dd13_INC_DE s
  | .dd14_INC_D => Sys2Proof.Machine.exec_dd14_INC_D s
  | .dd15_DEC_D => Sys2Proof.Machine.exec_dd15_DEC_D s
  | .dd16_LD_D_n => Sys2Proof.Machine.exec_dd16_LD_D_n s
  | .dd17_RLA => Sys2Proof.Machine.exec_dd17_RLA s
  | .dd18_JR_e => Sys2Proof.Machine.exec_dd18_JR_e s
  | .dd19_ADD_IX_DE => Sys2Proof.Machine.exec_dd19_ADD_IX_DE s
  | .dd1A_LD_A_mDE => Sys2Proof.Machine.exec_dd1A_LD_A_mDE s
  | .dd1B_DEC_DE => Sys2Proof.Machine.exec_dd1B_DEC_DE s
  | .dd1C_INC_E => Sys2Proof.Machine.exec_dd1C_INC_E s
  | .dd1D_DEC_E => Sys2Proof.Machine.exec_dd1D_DEC_E s
  | .dd1E_LD_E_n => Sys2Proof.Machine.exec_dd1E_LD_E_n s
  | .dd1F_RRA => Sys2Proof.Machine.exec_dd1F_RRA s
  | .dd20_JR_NZ_e => Sys2Proof.Machine.exec_dd20_JR_NZ_e s
  | .dd21_LD_IX_nn => Sys2Proof.Machine.exec_dd21_LD_IX_nn s
  | .dd22_LD_mnn_IX => Sys2Proof.Machine.exec_dd22_LD_mnn_IX s
  | .dd23_INC_IX => Sys2Proof.Machine.exec_dd23_INC_IX s
  | .dd24_INC_IXH => Sys2Proof.Machine.exec_dd24_INC_IXH s
  | .dd25_DEC_IXH => Sys2Proof.Machine.exec_dd25_DEC_IXH s
  | .dd26_LD_IXH_n => Sys2Proof.Machine.exec_dd26_LD_IXH_n s
  | .dd27_DAA => Sys2Proof.Machine.exec_dd27_DAA s
  | .dd28_JR_Z_e => Sys2Proof.Machine.exec_dd28_JR_Z_e s
  | .dd29_ADD_IX_IX => Sys2Proof.Machine.exec_dd29_ADD_IX_IX s
  | .dd2A_LD_IX_mnn => Sys2Proof.Machine.exec_dd2A_LD_IX_mnn s
  | .dd2B_DEC_IX => Sys2Proof.Machine.exec_dd2B_DEC_IX s
  | .dd2C_INC_IXL => Sys2Proof.Machine.exec_dd2C_INC_IXL s
  | .dd2D_DEC_IXL => Sys2Proof.Machine.exec_dd2D_DEC_IXL s
  | .dd2E_LD_IXL_n => Sys2Proof.Machine.exec_dd2E_LD_IXL_n s
  | .dd2F_CPL => Sys2Proof.Machine.exec_dd2F_CPL s
  | .dd30_JR_NC_e => Sys2Proof.Machine.exec_dd30_JR_NC_e s
  | .dd31_LD_SP_nn => Sys2Proof.Machine.exec_dd31_LD_SP_nn s
  | .dd32_LD_mnn_A => Sys2Proof.Machine.exec_dd32_LD_mnn_A s
  | .dd33_INC_SP => Sys2Proof.Machine.exec_dd33_INC_SP s
  | .dd34_INC_mIXd => Sys2Proof.Machine.exec_dd34_INC_mIXd s
  | .dd35_DEC_mIXd => Sys2Proof.Machine.exec_dd35_DEC_mIXd s
  | .dd36_LD_mIXd_n => Sys2Proof.Machine.exec_dd36_LD_mIXd_n s
  | .dd37_SCF => Sys2Proof.Machine.exec_dd37_SCF s
  | .dd38_JR_C_e => Sys2Proof.Machine.exec_dd38_JR_C_e s
  | .dd39_ADD_IX_SP => Sys2Proof.Machine.exec_dd39_ADD_IX_SP s
  | .dd3A_LD_A_mnn => Sys2Proof.Machine.exec_dd3A_LD_A_mnn s
  | .dd3B_DEC_SP => Sys2Proof.Machine.exec_dd3B_DEC_SP s
  | .dd3C_INC_A => Sys2Proof.Machine.exec_dd3C_INC_A s
  | .dd3D_DEC_A => Sys2Proof.Machine.exec_dd3D_DEC_A s
  | .dd3E_LD_A_n => Sys2Proof.Machine.exec_dd3E_LD_A_n s
  | .dd3F_CCF => Sys2Proof.Machine.exec_dd3F_CCF s
  | .dd40_LD_B_B => Sys2Proof.Machine.exec_dd40_LD_B_B s
  | .dd41_LD_B_C => Sys2Proof.Machine.exec_dd41_LD_B_C s
  | .dd42_LD_B_D => Sys2Proof.Machine.exec_dd42_LD_B_D s
  | .dd43_LD_B_E => Sys2Proof.Machine.exec_dd43_LD_B_E s
  | .dd44_LD_B_IXH => Sys2Proof.Machine.exec_dd44_LD_B_IXH s
  | .dd45_LD_B_IXL => Sys2Proof.Machine.exec_dd45_LD_B_IXL s
  | .dd46_LD_B_mIXd => Sys2Proof.Machine.exec_dd46_LD_B_mIXd s
  | .dd47_LD_B_A => Sys2Proof.Machine.exec_dd47_LD_B_A s
  | .dd48_LD_C_B => Sys2Proof.Machine.exec_dd48_LD_C_B s
  | .dd49_LD_C_C => Sys2Proof.Machine.exec_dd49_LD_C_C s
  | .dd4A_LD_C_D => Sys2Proof.Machine.exec_dd4A_LD_C_D s
  | .dd4B_LD_C_E => Sys2Proof.Machine.exec_dd4B_LD_C_E s
  | .dd4C_LD_C_IXH => Sys2Proof.Machine.exec_dd4C_LD_C_IXH s
  | .dd4D_LD_C_IXL => Sys2Proof.Machine.exec_dd4D_LD_C_IXL s
  | .dd4E_LD_C_mIXd => Sys2Proof.Machine.exec_dd4E_LD_C_mIXd s
  | .dd4F_LD_C_A => Sys2Proof.Machine.exec_dd4F_LD_C_A s
  | .dd50_LD_D_B => Sys2Proof.Machine.exec_dd50_LD_D_B s
  | .dd51_LD_D_C => Sys2Proof.Machine.exec_dd51_LD_D_C s
  | .dd52_LD_D_D => Sys2Proof.Machine.exec_dd52_LD_D_D s
  | .dd53_LD_D_E => Sys2Proof.Machine.exec_dd53_LD_D_E s
  | .dd54_LD_D_IXH => Sys2Proof.Machine.exec_dd54_LD_D_IXH s
  | .dd55_LD_D_IXL => Sys2Proof.Machine.exec_dd55_LD_D_IXL s
  | .dd56_LD_D_mIXd => Sys2Proof.Machine.exec_dd56_LD_D_mIXd s
  | .dd57_LD_D_A => Sys2Proof.Machine.exec_dd57_LD_D_A s
  | .dd58_LD_E_B => Sys2Proof.Machine.exec_dd58_LD_E_B s
  | .dd59_LD_E_C => Sys2Proof.Machine.exec_dd59_LD_E_C s
  | .dd5A_LD_E_D => Sys2Proof.Machine.exec_dd5A_LD_E_D s
  | .dd5B_LD_E_E => Sys2Proof.Machine.exec_dd5B_LD_E_E s
  | .dd5C_LD_E_IXH => Sys2Proof.Machine.exec_dd5C_LD_E_IXH s
  | .dd5D_LD_E_IXL => Sys2Proof.Machine.exec_dd5D_LD_E_IXL s
  | .dd5E_LD_E_mIXd => Sys2Proof.Machine.exec_dd5E_LD_E_mIXd s
  | .dd5F_LD_E_A => Sys2Proof.Machine.exec_dd5F_LD_E_A s
  | .dd60_LD_IXH_B => Sys2Proof.Machine.exec_dd60_LD_IXH_B s
  | .dd61_LD_IXH_C => Sys2Proof.Machine.exec_dd61_LD_IXH_C s
  | .dd62_LD_IXH_D => Sys2Proof.Machine.exec_dd62_LD_IXH_D s
  | .dd63_LD_IXH_E => Sys2Proof.Machine.exec_dd63_LD_IXH_E s
  | .dd64_LD_IXH_IXH => Sys2Proof.Machine.exec_dd64_LD_IXH_IXH s
  | .dd65_LD_IXH_IXL => Sys2Proof.Machine.exec_dd65_LD_IXH_IXL s
  | .dd66_LD_H_mIXd => Sys2Proof.Machine.exec_dd66_LD_H_mIXd s
  | .dd67_LD_IXH_A => Sys2Proof.Machine.exec_dd67_LD_IXH_A s
  | .dd68_LD_IXL_B => Sys2Proof.Machine.exec_dd68_LD_IXL_B s
  | .dd69_LD_IXL_C => Sys2Proof.Machine.exec_dd69_LD_IXL_C s
  | .dd6A_LD_IXL_D => Sys2Proof.Machine.exec_dd6A_LD_IXL_D s
  | .dd6B_LD_IXL_E => Sys2Proof.Machine.exec_dd6B_LD_IXL_E s
  | .dd6C_LD_IXL_IXH => Sys2Proof.Machine.exec_dd6C_LD_IXL_IXH s
  | .dd6D_LD_IXL_IXL => Sys2Proof.Machine.exec_dd6D_LD_IXL_IXL s
  | .dd6E_LD_L_mIXd => Sys2Proof.Machine.exec_dd6E_LD_L_mIXd s
  | .dd6F_LD_IXL_A => Sys2Proof.Machine.exec_dd6F_LD_IXL_A s
  | .dd70_LD_mIXd_B => Sys2Proof.Machine.exec_dd70_LD_mIXd_B s
  | .dd71_LD_mIXd_C => Sys2Proof.Machine.exec_dd71_LD_mIXd_C s
  | .dd72_LD_mIXd_D => Sys2Proof.Machine.exec_dd72_LD_mIXd_D s
  | .dd73_LD_mIXd_E => Sys2Proof.Machine.exec_dd73_LD_mIXd_E s
  | .dd74_LD_mIXd_H => Sys2Proof.Machine.exec_dd74_LD_mIXd_H s
  | .dd75_LD_mIXd_L => Sys2Proof.Machine.exec_dd75_LD_mIXd_L s
  | .dd76_HALT => Sys2Proof.Machine.exec_dd76_HALT s
  | .dd77_LD_mIXd_A => Sys2Proof.Machine.exec_dd77_LD_mIXd_A s
  | .dd78_LD_A_B => Sys2Proof.Machine.exec_dd78_LD_A_B s
  | .dd79_LD_A_C => Sys2Proof.Machine.exec_dd79_LD_A_C s
  | .dd7A_LD_A_D => Sys2Proof.Machine.exec_dd7A_LD_A_D s
  | .dd7B_LD_A_E => Sys2Proof.Machine.exec_dd7B_LD_A_E s
  | .dd7C_LD_A_IXH => Sys2Proof.Machine.exec_dd7C_LD_A_IXH s
  | .dd7D_LD_A_IXL => Sys2Proof.Machine.exec_dd7D_LD_A_IXL s
  | .dd7E_LD_A_mIXd => Sys2Proof.Machine.exec_dd7E_LD_A_mIXd s
  | .dd7F_LD_A_A => Sys2Proof.Machine.exec_dd7F_LD_A_A s
  | .dd80_ADD_A_B => Sys2Proof.Machine.exec_dd80_ADD_A_B s
  | .dd81_ADD_A_C => Sys2Proof.Machine.exec_dd81_ADD_A_C s
  | .dd82_ADD_A_D => Sys2Proof.Machine.exec_dd82_ADD_A_D s
  | .dd83_ADD_A_E => Sys2Proof.Machine.exec_dd83_ADD_A_E s
  | .dd84_ADD_A_IXH => Sys2Proof.Machine.exec_dd84_ADD_A_IXH s
  | .dd85_ADD_A_IXL => Sys2Proof.Machine.exec_dd85_ADD_A_IXL s
  | .dd86_ADD_A_mIXd => Sys2Proof.Machine.exec_dd86_ADD_A_mIXd s
  | .dd87_ADD_A_A => Sys2Proof.Machine.exec_dd87_ADD_A_A s
  | .dd88_ADC_A_B => Sys2Proof.Machine.exec_dd88_ADC_A_B s
  | .dd89_ADC_A_C => Sys2Proof.Machine.exec_dd89_ADC_A_C s
  | .dd8A_ADC_A_D => Sys2Proof.Machine.exec_dd8A_ADC_A_D s
  | .dd8B_ADC_A_E => Sys2Proof.Machine.exec_dd8B_ADC_A_E s
  | .dd8C_ADC_A_IXH => Sys2Proof.Machine.exec_dd8C_ADC_A_IXH s
  | .dd8D_ADC_A_IXL => Sys2Proof.Machine.exec_dd8D_ADC_A_IXL s
  | .dd8E_ADC_A_mIXd => Sys2Proof.Machine.exec_dd8E_ADC_A_mIXd s
  | .dd8F_ADC_A_A => Sys2Proof.Machine.exec_dd8F_ADC_A_A s
  | .dd90_SUB_B => Sys2Proof.Machine.exec_dd90_SUB_B s
  | .dd91_SUB_C => Sys2Proof.Machine.exec_dd91_SUB_C s
  | .dd92_SUB_D => Sys2Proof.Machine.exec_dd92_SUB_D s
  | .dd93_SUB_E => Sys2Proof.Machine.exec_dd93_SUB_E s
  | .dd94_SUB_IXH => Sys2Proof.Machine.exec_dd94_SUB_IXH s
  | .dd95_SUB_IXL => Sys2Proof.Machine.exec_dd95_SUB_IXL s
  | .dd96_SUB_mIXd => Sys2Proof.Machine.exec_dd96_SUB_mIXd s
  | .dd97_SUB_A => Sys2Proof.Machine.exec_dd97_SUB_A s
  | .dd98_SBC_A_B => Sys2Proof.Machine.exec_dd98_SBC_A_B s
  | .dd99_SBC_A_C => Sys2Proof.Machine.exec_dd99_SBC_A_C s
  | .dd9A_SBC_A_D => Sys2Proof.Machine.exec_dd9A_SBC_A_D s
  | .dd9B_SBC_A_E => Sys2Proof.Machine.exec_dd9B_SBC_A_E s
  | .dd9C_SBC_A_IXH => Sys2Proof.Machine.exec_dd9C_SBC_A_IXH s
  | .dd9D_SBC_A_IXL => Sys2Proof.Machine.exec_dd9D_SBC_A_IXL s
  | .dd9E_SBC_A_mIXd => Sys2Proof.Machine.exec_dd9E_SBC_A_mIXd s
  | .dd9F_SBC_A_A => Sys2Proof.Machine.exec_dd9F_SBC_A_A s
  | .ddA0_AND_B => Sys2Proof.Machine.exec_ddA0_AND_B s
  | .ddA1_AND_C => Sys2Proof.Machine.exec_ddA1_AND_C s
  | .ddA2_AND_D => Sys2Proof.Machine.exec_ddA2_AND_D s
  | .ddA3_AND_E => Sys2Proof.Machine.exec_ddA3_AND_E s
  | .ddA4_AND_IXH => Sys2Proof.Machine.exec_ddA4_AND_IXH s
  | .ddA5_AND_IXL => Sys2Proof.Machine.exec_ddA5_AND_IXL s
  | .ddA6_AND_mIXd => Sys2Proof.Machine.exec_ddA6_AND_mIXd s
  | .ddA7_AND_A => Sys2Proof.Machine.exec_ddA7_AND_A s
  | .ddA8_XOR_B => Sys2Proof.Machine.exec_ddA8_XOR_B s
  | .ddA9_XOR_C => Sys2Proof.Machine.exec_ddA9_XOR_C s
  | .ddAA_XOR_D => Sys2Proof.Machine.exec_ddAA_XOR_D s
  | .ddAB_XOR_E => Sys2Proof.Machine.exec_ddAB_XOR_E s
  | .ddAC_XOR_IXH => Sys2Proof.Machine.exec_ddAC_XOR_IXH s
  | .ddAD_XOR_IXL => Sys2Proof.Machine.exec_ddAD_XOR_IXL s
  | .ddAE_XOR_mIXd => Sys2Proof.Machine.exec_ddAE_XOR_mIXd s
  | .ddAF_XOR_A => Sys2Proof.Machine.exec_ddAF_XOR_A s
  | .ddB0_OR_B => Sys2Proof.Machine.exec_ddB0_OR_B s
  | .ddB1_OR_C => Sys2Proof.Machine.exec_ddB1_OR_C s
  | .ddB2_OR_D => Sys2Proof.Machine.exec_ddB2_OR_D s
  | .ddB3_OR_E => Sys2Proof.Machine.exec_ddB3_OR_E s
  | .ddB4_OR_IXH => Sys2Proof.Machine.exec_ddB4_OR_IXH s
  | .ddB5_OR_IXL => Sys2Proof.Machine.exec_ddB5_OR_IXL s
  | .ddB6_OR_mIXd => Sys2Proof.Machine.exec_ddB6_OR_mIXd s
  | .ddB7_OR_A => Sys2Proof.Machine.exec_ddB7_OR_A s
  | .ddB8_CP_B => Sys2Proof.Machine.exec_ddB8_CP_B s
  | .ddB9_CP_C => Sys2Proof.Machine.exec_ddB9_CP_C s
  | .ddBA_CP_D => Sys2Proof.Machine.exec_ddBA_CP_D s
  | .ddBB_CP_E => Sys2Proof.Machine.exec_ddBB_CP_E s
  | .ddBC_CP_IXH => Sys2Proof.Machine.exec_ddBC_CP_IXH s
  | .ddBD_CP_IXL => Sys2Proof.Machine.exec_ddBD_CP_IXL s
  | .ddBE_CP_mIXd => Sys2Proof.Machine.exec_ddBE_CP_mIXd s
  | .ddBF_CP_A => Sys2Proof.Machine.exec_ddBF_CP_A s
  | .ddC0_RET_NZ => Sys2Proof.Machine.exec_ddC0_RET_NZ s
  | .ddC1_POP_BC => Sys2Proof.Machine.exec_ddC1_POP_BC s
  | .ddC2_JP_NZ_nn => Sys2Proof.Machine.exec_ddC2_JP_NZ_nn s
  | .ddC3_JP_nn => Sys2Proof.Machine.exec_ddC3_JP_nn s
  | .ddC4_CALL_NZ_nn => Sys2Proof.Machine.exec_ddC4_CALL_NZ_nn s
  | .ddC5_PUSH_BC => Sys2Proof.Machine.exec_ddC5_PUSH_BC s
  | .ddC6_ADD_A_n => Sys2Proof.Machine.exec_ddC6_ADD_A_n s
  | .ddC7_RST_00H => Sys2Proof.Machine.exec_ddC7_RST_00H s
  | .ddC8_RET_Z => Sys2Proof.Machine.exec_ddC8_RET_Z s
  | .ddC9_RET => Sys2Proof.Machine.exec_ddC9_RET s
  | .ddCA_JP_Z_nn => Sys2Proof.Machine.exec_ddCA_JP_Z_nn s
  | .ddCB_PREFIX_DDCB => Sys2Proof.Machine.exec_ddCB_PREFIX_DDCB s
  | .ddCC_CALL_Z_nn => Sys2Proof.Machine.exec_ddCC_CALL_Z_nn s
  | .ddCD_CALL_nn => Sys2Proof.Machine.exec_ddCD_CALL_nn s
  | .ddCE_ADC_A_n => Sys2Proof.Machine.exec_ddCE_ADC_A_n s
  | .ddCF_RST_08H => Sys2Proof.Machine.exec_ddCF_RST_08H s
  | .ddD0_RET_NC => Sys2Proof.Machine.exec_ddD0_RET_NC s
  | .ddD1_POP_DE => Sys2Proof.Machine.exec_ddD1_POP_DE s
  | .ddD2_JP_NC_nn => Sys2Proof.Machine.exec_ddD2_JP_NC_nn s
  | .ddD3_OUT_mn_A => Sys2Proof.Machine.exec_ddD3_OUT_mn_A s
  | .ddD4_CALL_NC_nn => Sys2Proof.Machine.exec_ddD4_CALL_NC_nn s
  | .ddD5_PUSH_DE => Sys2Proof.Machine.exec_ddD5_PUSH_DE s
  | .ddD6_SUB_n => Sys2Proof.Machine.exec_ddD6_SUB_n s
  | .ddD7_RST_10H => Sys2Proof.Machine.exec_ddD7_RST_10H s
  | .ddD8_RET_C => Sys2Proof.Machine.exec_ddD8_RET_C s
  | .ddD9_EXX => Sys2Proof.Machine.exec_ddD9_EXX s
  | .ddDA_JP_C_nn => Sys2Proof.Machine.exec_ddDA_JP_C_nn s
  | .ddDB_IN_A_mn => Sys2Proof.Machine.exec_ddDB_IN_A_mn s
  | .ddDC_CALL_C_nn => Sys2Proof.Machine.exec_ddDC_CALL_C_nn s
  | .ddDD_PLACEHOLDER => Sys2Proof.Machine.exec_ddDD_PLACEHOLDER s
  | .ddDE_SBC_A_n => Sys2Proof.Machine.exec_ddDE_SBC_A_n s
  | .ddDF_RST_18H => Sys2Proof.Machine.exec_ddDF_RST_18H s
  | .ddE0_RET_PO => Sys2Proof.Machine.exec_ddE0_RET_PO s
  | .ddE1_POP_IX => Sys2Proof.Machine.exec_ddE1_POP_IX s
  | .ddE2_JP_PO_nn => Sys2Proof.Machine.exec_ddE2_JP_PO_nn s
  | .ddE3_EX_mSP_IX => Sys2Proof.Machine.exec_ddE3_EX_mSP_IX s
  | .ddE4_CALL_PO_nn => Sys2Proof.Machine.exec_ddE4_CALL_PO_nn s
  | .ddE5_PUSH_IX => Sys2Proof.Machine.exec_ddE5_PUSH_IX s
  | .ddE6_AND_n => Sys2Proof.Machine.exec_ddE6_AND_n s
  | .ddE7_RST_20H => Sys2Proof.Machine.exec_ddE7_RST_20H s
  | .ddE8_RET_PE => Sys2Proof.Machine.exec_ddE8_RET_PE s
  | .ddE9_JP_mIX => Sys2Proof.Machine.exec_ddE9_JP_mIX s
  | .ddEA_JP_PE_nn => Sys2Proof.Machine.exec_ddEA_JP_PE_nn s
  | .ddEB_EX_DE_HL => Sys2Proof.Machine.exec_ddEB_EX_DE_HL s
  | .ddEC_CALL_PE_nn => Sys2Proof.Machine.exec_ddEC_CALL_PE_nn s
  | .ddED_PLACEHOLDER => Sys2Proof.Machine.exec_ddED_PLACEHOLDER s
  | .ddEE_XOR_n => Sys2Proof.Machine.exec_ddEE_XOR_n s
  | .ddEF_RST_28H => Sys2Proof.Machine.exec_ddEF_RST_28H s
  | .ddF0_RET_P => Sys2Proof.Machine.exec_ddF0_RET_P s
  | .ddF1_POP_AF => Sys2Proof.Machine.exec_ddF1_POP_AF s
  | .ddF2_JP_P_nn => Sys2Proof.Machine.exec_ddF2_JP_P_nn s
  | .ddF3_DI => Sys2Proof.Machine.exec_ddF3_DI s
  | .ddF4_CALL_P_nn => Sys2Proof.Machine.exec_ddF4_CALL_P_nn s
  | .ddF5_PUSH_AF => Sys2Proof.Machine.exec_ddF5_PUSH_AF s
  | .ddF6_OR_n => Sys2Proof.Machine.exec_ddF6_OR_n s
  | .ddF7_RST_30H => Sys2Proof.Machine.exec_ddF7_RST_30H s
  | .ddF8_RET_M => Sys2Proof.Machine.exec_ddF8_RET_M s
  | .ddF9_LD_SP_IX => Sys2Proof.Machine.exec_ddF9_LD_SP_IX s
  | .ddFA_JP_M_nn => Sys2Proof.Machine.exec_ddFA_JP_M_nn s
  | .ddFB_EI => Sys2Proof.Machine.exec_ddFB_EI s
  | .ddFC_CALL_M_nn => Sys2Proof.Machine.exec_ddFC_CALL_M_nn s
  | .ddFD_PLACEHOLDER => Sys2Proof.Machine.exec_ddFD_PLACEHOLDER s
  | .ddFE_CP_n => Sys2Proof.Machine.exec_ddFE_CP_n s
  | .ddFF_RST_38H => Sys2Proof.Machine.exec_ddFF_RST_38H s
  -- FD table (index register IY)
  | .fd00_NOP => Sys2Proof.Machine.exec_fd00_NOP s
  | .fd01_LD_BC_nn => Sys2Proof.Machine.exec_fd01_LD_BC_nn s
  | .fd02_LD_mBC_A => Sys2Proof.Machine.exec_fd02_LD_mBC_A s
  | .fd03_INC_BC => Sys2Proof.Machine.exec_fd03_INC_BC s
  | .fd04_INC_B => Sys2Proof.Machine.exec_fd04_INC_B s
  | .fd05_DEC_B => Sys2Proof.Machine.exec_fd05_DEC_B s
  | .fd06_LD_B_n => Sys2Proof.Machine.exec_fd06_LD_B_n s
  | .fd07_RLCA => Sys2Proof.Machine.exec_fd07_RLCA s
  | .fd08_EX_AF_AFx => Sys2Proof.Machine.exec_fd08_EX_AF_AFx s
  | .fd09_ADD_IY_BC => Sys2Proof.Machine.exec_fd09_ADD_IY_BC s
  | .fd0A_LD_A_mBC => Sys2Proof.Machine.exec_fd0A_LD_A_mBC s
  | .fd0B_DEC_BC => Sys2Proof.Machine.exec_fd0B_DEC_BC s
  | .fd0C_INC_C => Sys2Proof.Machine.exec_fd0C_INC_C s
  | .fd0D_DEC_C => Sys2Proof.Machine.exec_fd0D_DEC_C s
  | .fd0E_LD_C_n => Sys2Proof.Machine.exec_fd0E_LD_C_n s
  | .fd0F_RRCA => Sys2Proof.Machine.exec_fd0F_RRCA s
  | .fd10_DJNZ_e => Sys2Proof.Machine.exec_fd10_DJNZ_e s
  | .fd11_LD_DE_nn => Sys2Proof.Machine.exec_fd11_LD_DE_nn s
  | .fd12_LD_mDE_A => Sys2Proof.Machine.exec_fd12_LD_mDE_A s
  | .fd13_INC_DE => Sys2Proof.Machine.exec_fd13_INC_DE s
  | .fd14_INC_D => Sys2Proof.Machine.exec_fd14_INC_D s
  | .fd15_DEC_D => Sys2Proof.Machine.exec_fd15_DEC_D s
  | .fd16_LD_D_n => Sys2Proof.Machine.exec_fd16_LD_D_n s
  | .fd17_RLA => Sys2Proof.Machine.exec_fd17_RLA s
  | .fd18_JR_e => Sys2Proof.Machine.exec_fd18_JR_e s
  | .fd19_ADD_IY_DE => Sys2Proof.Machine.exec_fd19_ADD_IY_DE s
  | .fd1A_LD_A_mDE => Sys2Proof.Machine.exec_fd1A_LD_A_mDE s
  | .fd1B_DEC_DE => Sys2Proof.Machine.exec_fd1B_DEC_DE s
  | .fd1C_INC_E => Sys2Proof.Machine.exec_fd1C_INC_E s
  | .fd1D_DEC_E => Sys2Proof.Machine.exec_fd1D_DEC_E s
  | .fd1E_LD_E_n => Sys2Proof.Machine.exec_fd1E_LD_E_n s
  | .fd1F_RRA => Sys2Proof.Machine.exec_fd1F_RRA s
  | .fd20_JR_NZ_e => Sys2Proof.Machine.exec_fd20_JR_NZ_e s
  | .fd21_LD_IY_nn => Sys2Proof.Machine.exec_fd21_LD_IY_nn s
  | .fd22_LD_mnn_IY => Sys2Proof.Machine.exec_fd22_LD_mnn_IY s
  | .fd23_INC_IY => Sys2Proof.Machine.exec_fd23_INC_IY s
  | .fd24_INC_IYH => Sys2Proof.Machine.exec_fd24_INC_IYH s
  | .fd25_DEC_IYH => Sys2Proof.Machine.exec_fd25_DEC_IYH s
  | .fd26_LD_IYH_n => Sys2Proof.Machine.exec_fd26_LD_IYH_n s
  | .fd27_DAA => Sys2Proof.Machine.exec_fd27_DAA s
  | .fd28_JR_Z_e => Sys2Proof.Machine.exec_fd28_JR_Z_e s
  | .fd29_ADD_IY_IY => Sys2Proof.Machine.exec_fd29_ADD_IY_IY s
  | .fd2A_LD_IY_mnn => Sys2Proof.Machine.exec_fd2A_LD_IY_mnn s
  | .fd2B_DEC_IY => Sys2Proof.Machine.exec_fd2B_DEC_IY s
  | .fd2C_INC_IYL => Sys2Proof.Machine.exec_fd2C_INC_IYL s
  | .fd2D_DEC_IYL => Sys2Proof.Machine.exec_fd2D_DEC_IYL s
  | .fd2E_LD_IYL_n => Sys2Proof.Machine.exec_fd2E_LD_IYL_n s
  | .fd2F_CPL => Sys2Proof.Machine.exec_fd2F_CPL s
  | .fd30_JR_NC_e => Sys2Proof.Machine.exec_fd30_JR_NC_e s
  | .fd31_LD_SP_nn => Sys2Proof.Machine.exec_fd31_LD_SP_nn s
  | .fd32_LD_mnn_A => Sys2Proof.Machine.exec_fd32_LD_mnn_A s
  | .fd33_INC_SP => Sys2Proof.Machine.exec_fd33_INC_SP s
  | .fd34_INC_mIYd => Sys2Proof.Machine.exec_fd34_INC_mIYd s
  | .fd35_DEC_mIYd => Sys2Proof.Machine.exec_fd35_DEC_mIYd s
  | .fd36_LD_mIYd_n => Sys2Proof.Machine.exec_fd36_LD_mIYd_n s
  | .fd37_SCF => Sys2Proof.Machine.exec_fd37_SCF s
  | .fd38_JR_C_e => Sys2Proof.Machine.exec_fd38_JR_C_e s
  | .fd39_ADD_IY_SP => Sys2Proof.Machine.exec_fd39_ADD_IY_SP s
  | .fd3A_LD_A_mnn => Sys2Proof.Machine.exec_fd3A_LD_A_mnn s
  | .fd3B_DEC_SP => Sys2Proof.Machine.exec_fd3B_DEC_SP s
  | .fd3C_INC_A => Sys2Proof.Machine.exec_fd3C_INC_A s
  | .fd3D_DEC_A => Sys2Proof.Machine.exec_fd3D_DEC_A s
  | .fd3E_LD_A_n => Sys2Proof.Machine.exec_fd3E_LD_A_n s
  | .fd3F_CCF => Sys2Proof.Machine.exec_fd3F_CCF s
  | .fd40_LD_B_B => Sys2Proof.Machine.exec_fd40_LD_B_B s
  | .fd41_LD_B_C => Sys2Proof.Machine.exec_fd41_LD_B_C s
  | .fd42_LD_B_D => Sys2Proof.Machine.exec_fd42_LD_B_D s
  | .fd43_LD_B_E => Sys2Proof.Machine.exec_fd43_LD_B_E s
  | .fd44_LD_B_IYH => Sys2Proof.Machine.exec_fd44_LD_B_IYH s
  | .fd45_LD_B_IYL => Sys2Proof.Machine.exec_fd45_LD_B_IYL s
  | .fd46_LD_B_mIYd => Sys2Proof.Machine.exec_fd46_LD_B_mIYd s
  | .fd47_LD_B_A => Sys2Proof.Machine.exec_fd47_LD_B_A s
  | .fd48_LD_C_B => Sys2Proof.Machine.exec_fd48_LD_C_B s
  | .fd49_LD_C_C => Sys2Proof.Machine.exec_fd49_LD_C_C s
  | .fd4A_LD_C_D => Sys2Proof.Machine.exec_fd4A_LD_C_D s
  | .fd4B_LD_C_E => Sys2Proof.Machine.exec_fd4B_LD_C_E s
  | .fd4C_LD_C_IYH => Sys2Proof.Machine.exec_fd4C_LD_C_IYH s
  | .fd4D_LD_C_IYL => Sys2Proof.Machine.exec_fd4D_LD_C_IYL s
  | .fd4E_LD_C_mIYd => Sys2Proof.Machine.exec_fd4E_LD_C_mIYd s
  | .fd4F_LD_C_A => Sys2Proof.Machine.exec_fd4F_LD_C_A s
  | .fd50_LD_D_B => Sys2Proof.Machine.exec_fd50_LD_D_B s
  | .fd51_LD_D_C => Sys2Proof.Machine.exec_fd51_LD_D_C s
  | .fd52_LD_D_D => Sys2Proof.Machine.exec_fd52_LD_D_D s
  | .fd53_LD_D_E => Sys2Proof.Machine.exec_fd53_LD_D_E s
  | .fd54_LD_D_IYH => Sys2Proof.Machine.exec_fd54_LD_D_IYH s
  | .fd55_LD_D_IYL => Sys2Proof.Machine.exec_fd55_LD_D_IYL s
  | .fd56_LD_D_mIYd => Sys2Proof.Machine.exec_fd56_LD_D_mIYd s
  | .fd57_LD_D_A => Sys2Proof.Machine.exec_fd57_LD_D_A s
  | .fd58_LD_E_B => Sys2Proof.Machine.exec_fd58_LD_E_B s
  | .fd59_LD_E_C => Sys2Proof.Machine.exec_fd59_LD_E_C s
  | .fd5A_LD_E_D => Sys2Proof.Machine.exec_fd5A_LD_E_D s
  | .fd5B_LD_E_E => Sys2Proof.Machine.exec_fd5B_LD_E_E s
  | .fd5C_LD_E_IYH => Sys2Proof.Machine.exec_fd5C_LD_E_IYH s
  | .fd5D_LD_E_IYL => Sys2Proof.Machine.exec_fd5D_LD_E_IYL s
  | .fd5E_LD_E_mIYd => Sys2Proof.Machine.exec_fd5E_LD_E_mIYd s
  | .fd5F_LD_E_A => Sys2Proof.Machine.exec_fd5F_LD_E_A s
  | .fd60_LD_IYH_B => Sys2Proof.Machine.exec_fd60_LD_IYH_B s
  | .fd61_LD_IYH_C => Sys2Proof.Machine.exec_fd61_LD_IYH_C s
  | .fd62_LD_IYH_D => Sys2Proof.Machine.exec_fd62_LD_IYH_D s
  | .fd63_LD_IYH_E => Sys2Proof.Machine.exec_fd63_LD_IYH_E s
  | .fd64_LD_IYH_IYH => Sys2Proof.Machine.exec_fd64_LD_IYH_IYH s
  | .fd65_LD_IYH_IYL => Sys2Proof.Machine.exec_fd65_LD_IYH_IYL s
  | .fd66_LD_H_mIYd => Sys2Proof.Machine.exec_fd66_LD_H_mIYd s
  | .fd67_LD_IYH_A => Sys2Proof.Machine.exec_fd67_LD_IYH_A s
  | .fd68_LD_IYL_B => Sys2Proof.Machine.exec_fd68_LD_IYL_B s
  | .fd69_LD_IYL_C => Sys2Proof.Machine.exec_fd69_LD_IYL_C s
  | .fd6A_LD_IYL_D => Sys2Proof.Machine.exec_fd6A_LD_IYL_D s
  | .fd6B_LD_IYL_E => Sys2Proof.Machine.exec_fd6B_LD_IYL_E s
  | .fd6C_LD_IYL_IYH => Sys2Proof.Machine.exec_fd6C_LD_IYL_IYH s
  | .fd6D_LD_IYL_IYL => Sys2Proof.Machine.exec_fd6D_LD_IYL_IYL s
  | .fd6E_LD_L_mIYd => Sys2Proof.Machine.exec_fd6E_LD_L_mIYd s
  | .fd6F_LD_IYL_A => Sys2Proof.Machine.exec_fd6F_LD_IYL_A s
  | .fd70_LD_mIYd_B => Sys2Proof.Machine.exec_fd70_LD_mIYd_B s
  | .fd71_LD_mIYd_C => Sys2Proof.Machine.exec_fd71_LD_mIYd_C s
  | .fd72_LD_mIYd_D => Sys2Proof.Machine.exec_fd72_LD_mIYd_D s
  | .fd73_LD_mIYd_E => Sys2Proof.Machine.exec_fd73_LD_mIYd_E s
  | .fd74_LD_mIYd_H => Sys2Proof.Machine.exec_fd74_LD_mIYd_H s
  | .fd75_LD_mIYd_L => Sys2Proof.Machine.exec_fd75_LD_mIYd_L s
  | .fd76_HALT => Sys2Proof.Machine.exec_fd76_HALT s
  | .fd77_LD_mIYd_A => Sys2Proof.Machine.exec_fd77_LD_mIYd_A s
  | .fd78_LD_A_B => Sys2Proof.Machine.exec_fd78_LD_A_B s
  | .fd79_LD_A_C => Sys2Proof.Machine.exec_fd79_LD_A_C s
  | .fd7A_LD_A_D => Sys2Proof.Machine.exec_fd7A_LD_A_D s
  | .fd7B_LD_A_E => Sys2Proof.Machine.exec_fd7B_LD_A_E s
  | .fd7C_LD_A_IYH => Sys2Proof.Machine.exec_fd7C_LD_A_IYH s
  | .fd7D_LD_A_IYL => Sys2Proof.Machine.exec_fd7D_LD_A_IYL s
  | .fd7E_LD_A_mIYd => Sys2Proof.Machine.exec_fd7E_LD_A_mIYd s
  | .fd7F_LD_A_A => Sys2Proof.Machine.exec_fd7F_LD_A_A s
  | .fd80_ADD_A_B => Sys2Proof.Machine.exec_fd80_ADD_A_B s
  | .fd81_ADD_A_C => Sys2Proof.Machine.exec_fd81_ADD_A_C s
  | .fd82_ADD_A_D => Sys2Proof.Machine.exec_fd82_ADD_A_D s
  | .fd83_ADD_A_E => Sys2Proof.Machine.exec_fd83_ADD_A_E s
  | .fd84_ADD_A_IYH => Sys2Proof.Machine.exec_fd84_ADD_A_IYH s
  | .fd85_ADD_A_IYL => Sys2Proof.Machine.exec_fd85_ADD_A_IYL s
  | .fd86_ADD_A_mIYd => Sys2Proof.Machine.exec_fd86_ADD_A_mIYd s
  | .fd87_ADD_A_A => Sys2Proof.Machine.exec_fd87_ADD_A_A s
  | .fd88_ADC_A_B => Sys2Proof.Machine.exec_fd88_ADC_A_B s
  | .fd89_ADC_A_C => Sys2Proof.Machine.exec_fd89_ADC_A_C s
  | .fd8A_ADC_A_D => Sys2Proof.Machine.exec_fd8A_ADC_A_D s
  | .fd8B_ADC_A_E => Sys2Proof.Machine.exec_fd8B_ADC_A_E s
  | .fd8C_ADC_A_IYH => Sys2Proof.Machine.exec_fd8C_ADC_A_IYH s
  | .fd8D_ADC_A_IYL => Sys2Proof.Machine.exec_fd8D_ADC_A_IYL s
  | .fd8E_ADC_A_mIYd => Sys2Proof.Machine.exec_fd8E_ADC_A_mIYd s
  | .fd8F_ADC_A_A => Sys2Proof.Machine.exec_fd8F_ADC_A_A s
  | .fd90_SUB_B => Sys2Proof.Machine.exec_fd90_SUB_B s
  | .fd91_SUB_C => Sys2Proof.Machine.exec_fd91_SUB_C s
  | .fd92_SUB_D => Sys2Proof.Machine.exec_fd92_SUB_D s
  | .fd93_SUB_E => Sys2Proof.Machine.exec_fd93_SUB_E s
  | .fd94_SUB_IYH => Sys2Proof.Machine.exec_fd94_SUB_IYH s
  | .fd95_SUB_IYL => Sys2Proof.Machine.exec_fd95_SUB_IYL s
  | .fd96_SUB_mIYd => Sys2Proof.Machine.exec_fd96_SUB_mIYd s
  | .fd97_SUB_A => Sys2Proof.Machine.exec_fd97_SUB_A s
  | .fd98_SBC_A_B => Sys2Proof.Machine.exec_fd98_SBC_A_B s
  | .fd99_SBC_A_C => Sys2Proof.Machine.exec_fd99_SBC_A_C s
  | .fd9A_SBC_A_D => Sys2Proof.Machine.exec_fd9A_SBC_A_D s
  | .fd9B_SBC_A_E => Sys2Proof.Machine.exec_fd9B_SBC_A_E s
  | .fd9C_SBC_A_IYH => Sys2Proof.Machine.exec_fd9C_SBC_A_IYH s
  | .fd9D_SBC_A_IYL => Sys2Proof.Machine.exec_fd9D_SBC_A_IYL s
  | .fd9E_SBC_A_mIYd => Sys2Proof.Machine.exec_fd9E_SBC_A_mIYd s
  | .fd9F_SBC_A_A => Sys2Proof.Machine.exec_fd9F_SBC_A_A s
  | .fdA0_AND_B => Sys2Proof.Machine.exec_fdA0_AND_B s
  | .fdA1_AND_C => Sys2Proof.Machine.exec_fdA1_AND_C s
  | .fdA2_AND_D => Sys2Proof.Machine.exec_fdA2_AND_D s
  | .fdA3_AND_E => Sys2Proof.Machine.exec_fdA3_AND_E s
  | .fdA4_AND_IYH => Sys2Proof.Machine.exec_fdA4_AND_IYH s
  | .fdA5_AND_IYL => Sys2Proof.Machine.exec_fdA5_AND_IYL s
  | .fdA6_AND_mIYd => Sys2Proof.Machine.exec_fdA6_AND_mIYd s
  | .fdA7_AND_A => Sys2Proof.Machine.exec_fdA7_AND_A s
  | .fdA8_XOR_B => Sys2Proof.Machine.exec_fdA8_XOR_B s
  | .fdA9_XOR_C => Sys2Proof.Machine.exec_fdA9_XOR_C s
  | .fdAA_XOR_D => Sys2Proof.Machine.exec_fdAA_XOR_D s
  | .fdAB_XOR_E => Sys2Proof.Machine.exec_fdAB_XOR_E s
  | .fdAC_XOR_IYH => Sys2Proof.Machine.exec_fdAC_XOR_IYH s
  | .fdAD_XOR_IYL => Sys2Proof.Machine.exec_fdAD_XOR_IYL s
  | .fdAE_XOR_mIYd => Sys2Proof.Machine.exec_fdAE_XOR_mIYd s
  | .fdAF_XOR_A => Sys2Proof.Machine.exec_fdAF_XOR_A s
  | .fdB0_OR_B => Sys2Proof.Machine.exec_fdB0_OR_B s
  | .fdB1_OR_C => Sys2Proof.Machine.exec_fdB1_OR_C s
  | .fdB2_OR_D => Sys2Proof.Machine.exec_fdB2_OR_D s
  | .fdB3_OR_E => Sys2Proof.Machine.exec_fdB3_OR_E s
  | .fdB4_OR_IYH => Sys2Proof.Machine.exec_fdB4_OR_IYH s
  | .fdB5_OR_IYL => Sys2Proof.Machine.exec_fdB5_OR_IYL s
  | .fdB6_OR_mIYd => Sys2Proof.Machine.exec_fdB6_OR_mIYd s
  | .fdB7_OR_A => Sys2Proof.Machine.exec_fdB7_OR_A s
  | .fdB8_CP_B => Sys2Proof.Machine.exec_fdB8_CP_B s
  | .fdB9_CP_C => Sys2Proof.Machine.exec_fdB9_CP_C s
  | .fdBA_CP_D => Sys2Proof.Machine.exec_fdBA_CP_D s
  | .fdBB_CP_E => Sys2Proof.Machine.exec_fdBB_CP_E s
  | .fdBC_CP_IYH => Sys2Proof.Machine.exec_fdBC_CP_IYH s
  | .fdBD_CP_IYL => Sys2Proof.Machine.exec_fdBD_CP_IYL s
  | .fdBE_CP_mIYd => Sys2Proof.Machine.exec_fdBE_CP_mIYd s
  | .fdBF_CP_A => Sys2Proof.Machine.exec_fdBF_CP_A s
  | .fdC0_RET_NZ => Sys2Proof.Machine.exec_fdC0_RET_NZ s
  | .fdC1_POP_BC => Sys2Proof.Machine.exec_fdC1_POP_BC s
  | .fdC2_JP_NZ_nn => Sys2Proof.Machine.exec_fdC2_JP_NZ_nn s
  | .fdC3_JP_nn => Sys2Proof.Machine.exec_fdC3_JP_nn s
  | .fdC4_CALL_NZ_nn => Sys2Proof.Machine.exec_fdC4_CALL_NZ_nn s
  | .fdC5_PUSH_BC => Sys2Proof.Machine.exec_fdC5_PUSH_BC s
  | .fdC6_ADD_A_n => Sys2Proof.Machine.exec_fdC6_ADD_A_n s
  | .fdC7_RST_00H => Sys2Proof.Machine.exec_fdC7_RST_00H s
  | .fdC8_RET_Z => Sys2Proof.Machine.exec_fdC8_RET_Z s
  | .fdC9_RET => Sys2Proof.Machine.exec_fdC9_RET s
  | .fdCA_JP_Z_nn => Sys2Proof.Machine.exec_fdCA_JP_Z_nn s
  | .fdCB_PREFIX_FDCB => Sys2Proof.Machine.exec_fdCB_PREFIX_FDCB s
  | .fdCC_CALL_Z_nn => Sys2Proof.Machine.exec_fdCC_CALL_Z_nn s
  | .fdCD_CALL_nn => Sys2Proof.Machine.exec_fdCD_CALL_nn s
  | .fdCE_ADC_A_n => Sys2Proof.Machine.exec_fdCE_ADC_A_n s
  | .fdCF_RST_08H => Sys2Proof.Machine.exec_fdCF_RST_08H s
  | .fdD0_RET_NC => Sys2Proof.Machine.exec_fdD0_RET_NC s
  | .fdD1_POP_DE => Sys2Proof.Machine.exec_fdD1_POP_DE s
  | .fdD2_JP_NC_nn => Sys2Proof.Machine.exec_fdD2_JP_NC_nn s
  | .fdD3_OUT_mn_A => Sys2Proof.Machine.exec_fdD3_OUT_mn_A s
  | .fdD4_CALL_NC_nn => Sys2Proof.Machine.exec_fdD4_CALL_NC_nn s
  | .fdD5_PUSH_DE => Sys2Proof.Machine.exec_fdD5_PUSH_DE s
  | .fdD6_SUB_n => Sys2Proof.Machine.exec_fdD6_SUB_n s
  | .fdD7_RST_10H => Sys2Proof.Machine.exec_fdD7_RST_10H s
  | .fdD8_RET_C => Sys2Proof.Machine.exec_fdD8_RET_C s
  | .fdD9_EXX => Sys2Proof.Machine.exec_fdD9_EXX s
  | .fdDA_JP_C_nn => Sys2Proof.Machine.exec_fdDA_JP_C_nn s
  | .fdDB_IN_A_mn => Sys2Proof.Machine.exec_fdDB_IN_A_mn s
  | .fdDC_CALL_C_nn => Sys2Proof.Machine.exec_fdDC_CALL_C_nn s
  | .fdDD_PLACEHOLDER => Sys2Proof.Machine.exec_fdDD_PLACEHOLDER s
  | .fdDE_SBC_A_n => Sys2Proof.Machine.exec_fdDE_SBC_A_n s
  | .fdDF_RST_18H => Sys2Proof.Machine.exec_fdDF_RST_18H s
  | .fdE0_RET_PO => Sys2Proof.Machine.exec_fdE0_RET_PO s
  | .fdE1_POP_IY => Sys2Proof.Machine.exec_fdE1_POP_IY s
  | .fdE2_JP_PO_nn => Sys2Proof.Machine.exec_fdE2_JP_PO_nn s
  | .fdE3_EX_mSP_IY => Sys2Proof.Machine.exec_fdE3_EX_mSP_IY s
  | .fdE4_CALL_PO_nn => Sys2Proof.Machine.exec_fdE4_CALL_PO_nn s
  | .fdE5_PUSH_IY => Sys2Proof.Machine.exec_fdE5_PUSH_IY s
  | .fdE6_AND_n => Sys2Proof.Machine.exec_fdE6_AND_n s
  | .fdE7_RST_20H => Sys2Proof.Machine.exec_fdE7_RST_20H s
  | .fdE8_RET_PE => Sys2Proof.Machine.exec_fdE8_RET_PE s
  | .fdE9_JP_mIY => Sys2Proof.Machine.exec_fdE9_JP_mIY s
  | .fdEA_JP_PE_nn => Sys2Proof.Machine.exec_fdEA_JP_PE_nn s
  | .fdEB_EX_DE_HL => Sys2Proof.Machine.exec_fdEB_EX_DE_HL s
  | .fdEC_CALL_PE_nn => Sys2Proof.Machine.exec_fdEC_CALL_PE_nn s
  | .fdED_PLACEHOLDER => Sys2Proof.Machine.exec_fdED_PLACEHOLDER s
  | .fdEE_XOR_n => Sys2Proof.Machine.exec_fdEE_XOR_n s
  | .fdEF_RST_28H => Sys2Proof.Machine.exec_fdEF_RST_28H s
  | .fdF0_RET_P => Sys2Proof.Machine.exec_fdF0_RET_P s
  | .fdF1_POP_AF => Sys2Proof.Machine.exec_fdF1_POP_AF s
  | .fdF2_JP_P_nn => Sys2Proof.Machine.exec_fdF2_JP_P_nn s
  | .fdF3_DI => Sys2Proof.Machine.exec_fdF3_DI s
  | .fdF4_CALL_P_nn => Sys2Proof.Machine.exec_fdF4_CALL_P_nn s
  | .fdF5_PUSH_AF => Sys2Proof.Machine.exec_fdF5_PUSH_AF s
  | .fdF6_OR_n => Sys2Proof.Machine.exec_fdF6_OR_n s
  | .fdF7_RST_30H => Sys2Proof.Machine.exec_fdF7_RST_30H s
  | .fdF8_RET_M => Sys2Proof.Machine.exec_fdF8_RET_M s
  | .fdF9_LD_SP_IY => Sys2Proof.Machine.exec_fdF9_LD_SP_IY s
  | .fdFA_JP_M_nn => Sys2Proof.Machine.exec_fdFA_JP_M_nn s
  | .fdFB_EI => Sys2Proof.Machine.exec_fdFB_EI s
  | .fdFC_CALL_M_nn => Sys2Proof.Machine.exec_fdFC_CALL_M_nn s
  | .fdFD_PLACEHOLDER => Sys2Proof.Machine.exec_fdFD_PLACEHOLDER s
  | .fdFE_CP_n => Sys2Proof.Machine.exec_fdFE_CP_n s
  | .fdFF_RST_38H => Sys2Proof.Machine.exec_fdFF_RST_38H s
  -- DD CB displaced table
  | .ddcb00_RLC_mIXd_B => Sys2Proof.Machine.exec_ddcb00_RLC_mIXd_B s
  | .ddcb01_RLC_mIXd_C => Sys2Proof.Machine.exec_ddcb01_RLC_mIXd_C s
  | .ddcb02_RLC_mIXd_D => Sys2Proof.Machine.exec_ddcb02_RLC_mIXd_D s
  | .ddcb03_RLC_mIXd_E => Sys2Proof.Machine.exec_ddcb03_RLC_mIXd_E s
  | .ddcb04_RLC_mIXd_H => Sys2Proof.Machine.exec_ddcb04_RLC_mIXd_H s
  | .ddcb05_RLC_mIXd_L => Sys2Proof.Machine.exec_ddcb05_RLC_mIXd_L s
  | .ddcb06_RLC_mIXd => Sys2Proof.Machine.exec_ddcb06_RLC_mIXd s
  | .ddcb07_RLC_mIXd_A => Sys2Proof.Machine.exec_ddcb07_RLC_mIXd_A s
  | .ddcb08_RRC_mIXd_B => Sys2Proof.Machine.exec_ddcb08_RRC_mIXd_B s
  | .ddcb09_RRC_mIXd_C => Sys2Proof.Machine.exec_ddcb09_RRC_mIXd_C s
  | .ddcb0A_RRC_mIXd_D => Sys2Proof.Machine.exec_ddcb0A_RRC_mIXd_D s
  | .ddcb0B_RRC_mIXd_E => Sys2Proof.Machine.exec_ddcb0B_RRC_mIXd_E s
  | .ddcb0C_RRC_mIXd_H => Sys2Proof.Machine.exec_ddcb0C_RRC_mIXd_H s
  | .ddcb0D_RRC_mIXd_L => Sys2Proof.Machine.exec_ddcb0D_RRC_mIXd_L s
  | .ddcb0E_RRC_mIXd => Sys2Proof.Machine.exec_ddcb0E_RRC_mIXd s
  | .ddcb0F_RRC_mIXd_A => Sys2Proof.Machine.exec_ddcb0F_RRC_mIXd_A s
  | .ddcb10_RL_mIXd_B => Sys2Proof.Machine.exec_ddcb10_RL_mIXd_B s
  | .ddcb11_RL_mIXd_C => Sys2Proof.Machine.exec_ddcb11_RL_mIXd_C s
  | .ddcb12_RL_mIXd_D => Sys2Proof.Machine.exec_ddcb12_RL_mIXd_D s
  | .ddcb13_RL_mIXd_E => Sys2Proof.Machine.exec_ddcb13_RL_mIXd_E s
  | .ddcb14_RL_mIXd_H => Sys2Proof.Machine.exec_ddcb14_RL_mIXd_H s
  | .ddcb15_RL_mIXd_L => Sys2Proof.Machine.exec_ddcb15_RL_mIXd_L s
  | .ddcb16_RL_mIXd => Sys2Proof.Machine.exec_ddcb16_RL_mIXd s
  | .ddcb17_RL_mIXd_A => Sys2Proof.Machine.exec_ddcb17_RL_mIXd_A s
  | .ddcb18_RR_mIXd_B => Sys2Proof.Machine.exec_ddcb18_RR_mIXd_B s
  | .ddcb19_RR_mIXd_C => Sys2Proof.Machine.exec_ddcb19_RR_mIXd_C s
  | .ddcb1A_RR_mIXd_D => Sys2Proof.Machine.exec_ddcb1A_RR_mIXd_D s
  | .ddcb1B_RR_mIXd_E => Sys2Proof.Machine.exec_ddcb1B_RR_mIXd_E s
  | .ddcb1C_RR_mIXd_H => Sys2Proof.Machine.exec_ddcb1C_RR_mIXd_H s
  | .ddcb1D_RR_mIXd_L => Sys2Proof.Machine.exec_ddcb1D_RR_mIXd_L s
  | .ddcb1E_RR_mIXd => Sys2Proof.Machine.exec_ddcb1E_RR_mIXd s
  | .ddcb1F_RR_mIXd_A => Sys2Proof.Machine.exec_ddcb1F_RR_mIXd_A s
  | .ddcb20_SLA_mIXd_B => Sys2Proof.Machine.exec_ddcb20_SLA_mIXd_B s
  | .ddcb21_SLA_mIXd_C => Sys2Proof.Machine.exec_ddcb21_SLA_mIXd_C s
  | .ddcb22_SLA_mIXd_D => Sys2Proof.Machine.exec_ddcb22_SLA_mIXd_D s
  | .ddcb23_SLA_mIXd_E => Sys2Proof.Machine.exec_ddcb23_SLA_mIXd_E s
  | .ddcb24_SLA_mIXd_H => Sys2Proof.Machine.exec_ddcb24_SLA_mIXd_H s
  | .ddcb25_SLA_mIXd_L => Sys2Proof.Machine.exec_ddcb25_SLA_mIXd_L s
  | .ddcb26_SLA_mIXd => Sys2Proof.Machine.exec_ddcb26_SLA_mIXd s
  | .ddcb27_SLA_mIXd_A => Sys2Proof.Machine.exec_ddcb27_SLA_mIXd_A s
  | .ddcb28_SRA_mIXd_B => Sys2Proof.Machine.exec_ddcb28_SRA_mIXd_B s
  | .ddcb29_SRA_mIXd_C => Sys2Proof.Machine.exec_ddcb29_SRA_mIXd_C s
  | .ddcb2A_SRA_mIXd_D => Sys2Proof.Machine.exec_ddcb2A_SRA_mIXd_D s
  | .ddcb2B_SRA_mIXd_E => Sys2Proof.Machine.exec_ddcb2B_SRA_mIXd_E s
  | .ddcb2C_SRA_mIXd_H => Sys2Proof.Machine.exec_ddcb2C_SRA_mIXd_H s
  | .ddcb2D_SRA_mIXd_L => Sys2Proof.Machine.exec_ddcb2D_SRA_mIXd_L s
  | .ddcb2E_SRA_mIXd => Sys2Proof.Machine.exec_ddcb2E_SRA_mIXd s
  | .ddcb2F_SRA_mIXd_A => Sys2Proof.Machine.exec_ddcb2F_SRA_mIXd_A s
  | .ddcb30_SLL_mIXd_B => Sys2Proof.Machine.exec_ddcb30_SLL_mIXd_B s
  | .ddcb31_SLL_mIXd_C => Sys2Proof.Machine.exec_ddcb31_SLL_mIXd_C s
  | .ddcb32_SLL_mIXd_D => Sys2Proof.Machine.exec_ddcb32_SLL_mIXd_D s
  | .ddcb33_SLL_mIXd_E => Sys2Proof.Machine.exec_ddcb33_SLL_mIXd_E s
  | .ddcb34_SLL_mIXd_H => Sys2Proof.Machine.exec_ddcb34_SLL_mIXd_H s
  | .ddcb35_SLL_mIXd_L => Sys2Proof.Machine.exec_ddcb35_SLL_mIXd_L s
  | .ddcb36_SLL_mIXd => Sys2Proof.Machine.exec_ddcb36_SLL_mIXd s
  | .ddcb37_SLL_mIXd_A => Sys2Proof.Machine.exec_ddcb37_SLL_mIXd_A s
  | .ddcb38_SRL_mIXd_B => Sys2Proof.Machine.exec_ddcb38_SRL_mIXd_B s
  | .ddcb39_SRL_mIXd_C => Sys2Proof.Machine.exec_ddcb39_SRL_mIXd_C s
  | .ddcb3A_SRL_mIXd_D => Sys2Proof.Machine.exec_ddcb3A_SRL_mIXd_D s
  | .ddcb3B_SRL_mIXd_E => Sys2Proof.Machine.exec_ddcb3B_SRL_mIXd_E s
  | .ddcb3C_SRL_mIXd_H => Sys2Proof.Machine.exec_ddcb3C_SRL_mIXd_H s
  | .ddcb3D_SRL_mIXd_L => Sys2Proof.Machine.exec_ddcb3D_SRL_mIXd_L s
  | .ddcb3E_SRL_mIXd => Sys2Proof.Machine.exec_ddcb3E_SRL_mIXd s
  | .ddcb3F_SRL_mIXd_A => Sys2Proof.Machine.exec_ddcb3F_SRL_mIXd_A s
  | .ddcb40_BIT_0_mIXd => Sys2Proof.Machine.exec_ddcb40_BIT_0_mIXd s
  | .ddcb41_BIT_0_mIXd => Sys2Proof.Machine.exec_ddcb41_BIT_0_mIXd s
  | .ddcb42_BIT_0_mIXd => Sys2Proof.Machine.exec_ddcb42_BIT_0_mIXd s
  | .ddcb43_BIT_0_mIXd => Sys2Proof.Machine.exec_ddcb43_BIT_0_mIXd s
  | .ddcb44_BIT_0_mIXd => Sys2Proof.Machine.exec_ddcb44_BIT_0_mIXd s
  | .ddcb45_BIT_0_mIXd => Sys2Proof.Machine.exec_ddcb45_BIT_0_mIXd s
  | .ddcb46_BIT_0_mIXd => Sys2Proof.Machine.exec_ddcb46_BIT_0_mIXd s
  | .ddcb47_BIT_0_mIXd => Sys2Proof.Machine.exec_ddcb47_BIT_0_mIXd s
  | .ddcb48_BIT_1_mIXd => Sys2Proof.Machine.exec_ddcb48_BIT_1_mIXd s
  | .ddcb49_BIT_1_mIXd => Sys2Proof.Machine.exec_ddcb49_BIT_1_mIXd s
  | .ddcb4A_BIT_1_mIXd => Sys2Proof.Machine.exec_ddcb4A_BIT_1_mIXd s
  | .ddcb4B_BIT_1_mIXd => Sys2Proof.Machine.exec_ddcb4B_BIT_1_mIXd s
  | .ddcb4C_BIT_1_mIXd => Sys2Proof.Machine.exec_ddcb4C_BIT_1_mIXd s
  | .ddcb4D_BIT_1_mIXd => Sys2Proof.Machine.exec_ddcb4D_BIT_1_mIXd s
  | .ddcb4E_BIT_1_mIXd => Sys2Proof.Machine.exec_ddcb4E_BIT_1_mIXd s
  | .ddcb4F_BIT_1_mIXd => Sys2Proof.Machine.exec_ddcb4F_BIT_1_mIXd s
  | .ddcb50_BIT_2_mIXd => Sys2Proof.Machine.exec_ddcb50_BIT_2_mIXd s
  | .ddcb51_BIT_2_mIXd => Sys2Proof.Machine.exec_ddcb51_BIT_2_mIXd s
  | .ddcb52_BIT_2_mIXd => Sys2Proof.Machine.exec_ddcb52_BIT_2_mIXd s
  | .ddcb53_BIT_2_mIXd => Sys2Proof.Machine.exec_ddcb53_BIT_2_mIXd s
  | .ddcb54_BIT_2_mIXd => Sys2Proof.Machine.exec_ddcb54_BIT_2_mIXd s
  | .ddcb55_BIT_2_mIXd => Sys2Proof.Machine.exec_ddcb55_BIT_2_mIXd s
  | .ddcb56_BIT_2_mIXd => Sys2Proof.Machine.exec_ddcb56_BIT_2_mIXd s
  | .ddcb57_BIT_2_mIXd => Sys2Proof.Machine.exec_ddcb57_BIT_2_mIXd s
  | .ddcb58_BIT_3_mIXd => Sys2Proof.Machine.exec_ddcb58_BIT_3_mIXd s
  | .ddcb59_BIT_3_mIXd => Sys2Proof.Machine.exec_ddcb59_BIT_3_mIXd s
  | .ddcb5A_BIT_3_mIXd => Sys2Proof.Machine.exec_ddcb5A_BIT_3_mIXd s
  | .ddcb5B_BIT_3_mIXd => Sys2Proof.Machine.exec_ddcb5B_BIT_3_mIXd s
  | .ddcb5C_BIT_3_mIXd => Sys2Proof.Machine.exec_ddcb5C_BIT_3_mIXd s
  | .ddcb5D_BIT_3_mIXd => Sys2Proof.Machine.exec_ddcb5D_BIT_3_mIXd s
  | .ddcb5E_BIT_3_mIXd => Sys2Proof.Machine.exec_ddcb5E_BIT_3_mIXd s
  | .ddcb5F_BIT_3_mIXd => Sys2Proof.Machine.exec_ddcb5F_BIT_3_mIXd s
  | .ddcb60_BIT_4_mIXd => Sys2Proof.Machine.exec_ddcb60_BIT_4_mIXd s
  | .ddcb61_BIT_4_mIXd => Sys2Proof.Machine.exec_ddcb61_BIT_4_mIXd s
  | .ddcb62_BIT_4_mIXd => Sys2Proof.Machine.exec_ddcb62_BIT_4_mIXd s
  | .ddcb63_BIT_4_mIXd => Sys2Proof.Machine.exec_ddcb63_BIT_4_mIXd s
  | .ddcb64_BIT_4_mIXd => Sys2Proof.Machine.exec_ddcb64_BIT_4_mIXd s
  | .ddcb65_BIT_4_mIXd => Sys2Proof.Machine.exec_ddcb65_BIT_4_mIXd s
  | .ddcb66_BIT_4_mIXd => Sys2Proof.Machine.exec_ddcb66_BIT_4_mIXd s
  | .ddcb67_BIT_4_mIXd => Sys2Proof.Machine.exec_ddcb67_BIT_4_mIXd s
  | .ddcb68_BIT_5_mIXd => Sys2Proof.Machine.exec_ddcb68_BIT_5_mIXd s
  | .ddcb69_BIT_5_mIXd => Sys2Proof.Machine.exec_ddcb69_BIT_5_mIXd s
  | .ddcb6A_BIT_5_mIXd => Sys2Proof.Machine.exec_ddcb6A_BIT_5_mIXd s
  | .ddcb6B_BIT_5_mIXd => Sys2Proof.Machine.exec_ddcb6B_BIT_5_mIXd s
  | .ddcb6C_BIT_5_mIXd => Sys2Proof.Machine.exec_ddcb6C_BIT_5_mIXd s
  | .ddcb6D_BIT_5_mIXd => Sys2Proof.Machine.exec_ddcb6D_BIT_5_mIXd s
  | .ddcb6E_BIT_5_mIXd => Sys2Proof.Machine.exec_ddcb6E_BIT_5_mIXd s
  | .ddcb6F_BIT_5_mIXd => Sys2Proof.Machine.exec_ddcb6F_BIT_5_mIXd s
  | .ddcb70_BIT_6_mIXd => Sys2Proof.Machine.exec_ddcb70_BIT_6_mIXd s
  | .ddcb71_BIT_6_mIXd => Sys2Proof.Machine.exec_ddcb71_BIT_6_mIXd s
  | .ddcb72_BIT_6_mIXd => Sys2Proof.Machine.exec_ddcb72_BIT_6_mIXd s
  | .ddcb73_BIT_6_mIXd => Sys2Proof.Machine.exec_ddcb73_BIT_6_mIXd s
  | .ddcb74_BIT_6_mIXd => Sys2Proof.Machine.exec_ddcb74_BIT_6_mIXd s
  | .ddcb75_BIT_6_mIXd => Sys2Proof.Machine.exec_ddcb75_BIT_6_mIXd s
  | .ddcb76_BIT_6_mIXd => Sys2Proof.Machine.exec_ddcb76_BIT_6_mIXd s
  | .ddcb77_BIT_6_mIXd => Sys2Proof.Machine.exec_ddcb77_BIT_6_mIXd s
  | .ddcb78_BIT_7_mIXd => Sys2Proof.Machine.exec_ddcb78_BIT_7_mIXd s
  | .ddcb79_BIT_7_mIXd => Sys2Proof.Machine.exec_ddcb79_BIT_7_mIXd s
  | .ddcb7A_BIT_7_mIXd => Sys2Proof.Machine.exec_ddcb7A_BIT_7_mIXd s
  | .ddcb7B_BIT_7_mIXd => Sys2Proof.Machine.exec_ddcb7B_BIT_7_mIXd s
  | .ddcb7C_BIT_7_mIXd => Sys2Proof.Machine.exec_ddcb7C_BIT_7_mIXd s
  | .ddcb7D_BIT_7_mIXd => Sys2Proof.Machine.exec_ddcb7D_BIT_7_mIXd s
  | .ddcb7E_BIT_7_mIXd => Sys2Proof.Machine.exec_ddcb7E_BIT_7_mIXd s
  | .ddcb7F_BIT_7_mIXd => Sys2Proof.Machine.exec_ddcb7F_BIT_7_mIXd s
  | .ddcb80_RES_0_mIXd_B => Sys2Proof.Machine.exec_ddcb80_RES_0_mIXd_B s
  | .ddcb81_RES_0_mIXd_C => Sys2Proof.Machine.exec_ddcb81_RES_0_mIXd_C s
  | .ddcb82_RES_0_mIXd_D => Sys2Proof.Machine.exec_ddcb82_RES_0_mIXd_D s
  | .ddcb83_RES_0_mIXd_E => Sys2Proof.Machine.exec_ddcb83_RES_0_mIXd_E s
  | .ddcb84_RES_0_mIXd_H => Sys2Proof.Machine.exec_ddcb84_RES_0_mIXd_H s
  | .ddcb85_RES_0_mIXd_L => Sys2Proof.Machine.exec_ddcb85_RES_0_mIXd_L s
  | .ddcb86_RES_0_mIXd => Sys2Proof.Machine.exec_ddcb86_RES_0_mIXd s
  | .ddcb87_RES_0_mIXd_A => Sys2Proof.Machine.exec_ddcb87_RES_0_mIXd_A s
  | .ddcb88_RES_1_mIXd_B => Sys2Proof.Machine.exec_ddcb88_RES_1_mIXd_B s
  | .ddcb89_RES_1_mIXd_C => Sys2Proof.Machine.exec_ddcb89_RES_1_mIXd_C s
  | .ddcb8A_RES_1_mIXd_D => Sys2Proof.Machine.exec_ddcb8A_RES_1_mIXd_D s
  | .ddcb8B_RES_1_mIXd_E => Sys2Proof.Machine.exec_ddcb8B_RES_1_mIXd_E s
  | .ddcb8C_RES_1_mIXd_H => Sys2Proof.Machine.exec_ddcb8C_RES_1_mIXd_H s
  | .ddcb8D_RES_1_mIXd_L => Sys2Proof.Machine.exec_ddcb8D_RES_1_mIXd_L s
  | .ddcb8E_RES_1_mIXd => Sys2Proof.Machine.exec_ddcb8E_RES_1_mIXd s
  | .ddcb8F_RES_1_mIXd_A => Sys2Proof.Machine.exec_ddcb8F_RES_1_mIXd_A s
  | .ddcb90_RES_2_mIXd_B => Sys2Proof.Machine.exec_ddcb90_RES_2_mIXd_B s
  | .ddcb91_RES_2_mIXd_C => Sys2Proof.Machine.exec_ddcb91_RES_2_mIXd_C s
  | .ddcb92_RES_2_mIXd_D => Sys2Proof.Machine.exec_ddcb92_RES_2_mIXd_D s
  | .ddcb93_RES_2_mIXd_E => Sys2Proof.Machine.exec_ddcb93_RES_2_mIXd_E s
  | .ddcb94_RES_2_mIXd_H => Sys2Proof.Machine.exec_ddcb94_RES_2_mIXd_H s
  | .ddcb95_RES_2_mIXd_L => Sys2Proof.Machine.exec_ddcb95_RES_2_mIXd_L s
  | .ddcb96_RES_2_mIXd => Sys2Proof.Machine.exec_ddcb96_RES_2_mIXd s
  | .ddcb97_RES_2_mIXd_A => Sys2Proof.Machine.exec_ddcb97_RES_2_mIXd_A s
  | .ddcb98_RES_3_mIXd_B => Sys2Proof.Machine.exec_ddcb98_RES_3_mIXd_B s
  | .ddcb99_RES_3_mIXd_C => Sys2Proof.Machine.exec_ddcb99_RES_3_mIXd_C s
  | .ddcb9A_RES_3_mIXd_D => Sys2Proof.Machine.exec_ddcb9A_RES_3_mIXd_D s
  | .ddcb9B_RES_3_mIXd_E => Sys2Proof.Machine.exec_ddcb9B_RES_3_mIXd_E s
  | .ddcb9C_RES_3_mIXd_H => Sys2Proof.Machine.exec_ddcb9C_RES_3_mIXd_H s
  | .ddcb9D_RES_3_mIXd_L => Sys2Proof.Machine.exec_ddcb9D_RES_3_mIXd_L s
  | .ddcb9E_RES_3_mIXd => Sys2Proof.Machine.exec_ddcb9E_RES_3_mIXd s
  | .ddcb9F_RES_3_mIXd_A => Sys2Proof.Machine.exec_ddcb9F_RES_3_mIXd_A s
  | .ddcbA0_RES_4_mIXd_B => Sys2Proof.Machine.exec_ddcbA0_RES_4_mIXd_B s
  | .ddcbA1_RES_4_mIXd_C => Sys2Proof.Machine.exec_ddcbA1_RES_4_mIXd_C s
  | .ddcbA2_RES_4_mIXd_D => Sys2Proof.Machine.exec_ddcbA2_RES_4_mIXd_D s
  | .ddcbA3_RES_4_mIXd_E => Sys2Proof.Machine.exec_ddcbA3_RES_4_mIXd_E s
  | .ddcbA4_RES_4_mIXd_H => Sys2Proof.Machine.exec_ddcbA4_RES_4_mIXd_H s
  | .ddcbA5_RES_4_mIXd_L => Sys2Proof.Machine.exec_ddcbA5_RES_4_mIXd_L s
  | .ddcbA6_RES_4_mIXd => Sys2Proof.Machine.exec_ddcbA6_RES_4_mIXd s
  | .ddcbA7_RES_4_mIXd_A => Sys2Proof.Machine.exec_ddcbA7_RES_4_mIXd_A s
  | .ddcbA8_RES_5_mIXd_B => Sys2Proof.Machine.exec_ddcbA8_RES_5_mIXd_B s
  | .ddcbA9_RES_5_mIXd_C => Sys2Proof.Machine.exec_ddcbA9_RES_5_mIXd_C s
  | .ddcbAA_RES_5_mIXd_D => Sys2Proof.Machine.exec_ddcbAA_RES_5_mIXd_D s
  | .ddcbAB_RES_5_mIXd_E => Sys2Proof.Machine.exec_ddcbAB_RES_5_mIXd_E s
  | .ddcbAC_RES_5_mIXd_H => Sys2Proof.Machine.exec_ddcbAC_RES_5_mIXd_H s
  | .ddcbAD_RES_5_mIXd_L => Sys2Proof.Machine.exec_ddcbAD_RES_5_mIXd_L s
  | .ddcbAE_RES_5_mIXd => Sys2Proof.Machine.exec_ddcbAE_RES_5_mIXd s
  | .ddcbAF_RES_5_mIXd_A => Sys2Proof.Machine.exec_ddcbAF_RES_5_mIXd_A s
  | .ddcbB0_RES_6_mIXd_B => Sys2Proof.Machine.exec_ddcbB0_RES_6_mIXd_B s
  | .ddcbB1_RES_6_mIXd_C => Sys2Proof.Machine.exec_ddcbB1_RES_6_mIXd_C s
  | .ddcbB2_RES_6_mIXd_D => Sys2Proof.Machine.exec_ddcbB2_RES_6_mIXd_D s
  | .ddcbB3_RES_6_mIXd_E => Sys2Proof.Machine.exec_ddcbB3_RES_6_mIXd_E s
  | .ddcbB4_RES_6_mIXd_H => Sys2Proof.Machine.exec_ddcbB4_RES_6_mIXd_H s
  | .ddcbB5_RES_6_mIXd_L => Sys2Proof.Machine.exec_ddcbB5_RES_6_mIXd_L s
  | .ddcbB6_RES_6_mIXd => Sys2Proof.Machine.exec_ddcbB6_RES_6_mIXd s
  | .ddcbB7_RES_6_mIXd_A => Sys2Proof.Machine.exec_ddcbB7_RES_6_mIXd_A s
  | .ddcbB8_RES_7_mIXd_B => Sys2Proof.Machine.exec_ddcbB8_RES_7_mIXd_B s
  | .ddcbB9_RES_7_mIXd_C => Sys2Proof.Machine.exec_ddcbB9_RES_7_mIXd_C s
  | .ddcbBA_RES_7_mIXd_D => Sys2Proof.Machine.exec_ddcbBA_RES_7_mIXd_D s
  | .ddcbBB_RES_7_mIXd_E => Sys2Proof.Machine.exec_ddcbBB_RES_7_mIXd_E s
  | .ddcbBC_RES_7_mIXd_H => Sys2Proof.Machine.exec_ddcbBC_RES_7_mIXd_H s
  | .ddcbBD_RES_7_mIXd_L => Sys2Proof.Machine.exec_ddcbBD_RES_7_mIXd_L s
  | .ddcbBE_RES_7_mIXd => Sys2Proof.Machine.exec_ddcbBE_RES_7_mIXd s
  | .ddcbBF_RES_7_mIXd_A => Sys2Proof.Machine.exec_ddcbBF_RES_7_mIXd_A s
  | .ddcbC0_SET_0_mIXd_B => Sys2Proof.Machine.exec_ddcbC0_SET_0_mIXd_B s
  | .ddcbC1_SET_0_mIXd_C => Sys2Proof.Machine.exec_ddcbC1_SET_0_mIXd_C s
  | .ddcbC2_SET_0_mIXd_D => Sys2Proof.Machine.exec_ddcbC2_SET_0_mIXd_D s
  | .ddcbC3_SET_0_mIXd_E => Sys2Proof.Machine.exec_ddcbC3_SET_0_mIXd_E s
  | .ddcbC4_SET_0_mIXd_H => Sys2Proof.Machine.exec_ddcbC4_SET_0_mIXd_H s
  | .ddcbC5_SET_0_mIXd_L => Sys2Proof.Machine.exec_ddcbC5_SET_0_mIXd_L s
  | .ddcbC6_SET_0_mIXd => Sys2Proof.Machine.exec_ddcbC6_SET_0_mIXd s
  | .ddcbC7_SET_0_mIXd_A => Sys2Proof.Machine.exec_ddcbC7_SET_0_mIXd_A s
  | .ddcbC8_SET_1_mIXd_B => Sys2Proof.Machine.exec_ddcbC8_SET_1_mIXd_B s
  | .ddcbC9_SET_1_mIXd_C => Sys2Proof.Machine.exec_ddcbC9_SET_1_mIXd_C s
  | .ddcbCA_SET_1_mIXd_D => Sys2Proof.Machine.exec_ddcbCA_SET_1_mIXd_D s
  | .ddcbCB_SET_1_mIXd_E => Sys2Proof.Machine.exec_ddcbCB_SET_1_mIXd_E s
  | .ddcbCC_SET_1_mIXd_H => Sys2Proof.Machine.exec_ddcbCC_SET_1_mIXd_H s
  | .ddcbCD_SET_1_mIXd_L => Sys2Proof.Machine.exec_ddcbCD_SET_1_mIXd_L s
  | .ddcbCE_SET_1_mIXd => Sys2Proof.Machine.exec_ddcbCE_SET_1_mIXd s
  | .ddcbCF_SET_1_mIXd_A => Sys2Proof.Machine.exec_ddcbCF_SET_1_mIXd_A s
  | .ddcbD0_SET_2_mIXd_B => Sys2Proof.Machine.exec_ddcbD0_SET_2_mIXd_B s
  | .ddcbD1_SET_2_mIXd_C => Sys2Proof.Machine.exec_ddcbD1_SET_2_mIXd_C s
  | .ddcbD2_SET_2_mIXd_D => Sys2Proof.Machine.exec_ddcbD2_SET_2_mIXd_D s
  | .ddcbD3_SET_2_mIXd_E => Sys2Proof.Machine.exec_ddcbD3_SET_2_mIXd_E s
  | .ddcbD4_SET_2_mIXd_H => Sys2Proof.Machine.exec_ddcbD4_SET_2_mIXd_H s
  | .ddcbD5_SET_2_mIXd_L => Sys2Proof.Machine.exec_ddcbD5_SET_2_mIXd_L s
  | .ddcbD6_SET_2_mIXd => Sys2Proof.Machine.exec_ddcbD6_SET_2_mIXd s
  | .ddcbD7_SET_2_mIXd_A => Sys2Proof.Machine.exec_ddcbD7_SET_2_mIXd_A s
  | .ddcbD8_SET_3_mIXd_B => Sys2Proof.Machine.exec_ddcbD8_SET_3_mIXd_B s
  | .ddcbD9_SET_3_mIXd_C => Sys2Proof.Machine.exec_ddcbD9_SET_3_mIXd_C s
  | .ddcbDA_SET_3_mIXd_D => Sys2Proof.Machine.exec_ddcbDA_SET_3_mIXd_D s
  | .ddcbDB_SET_3_mIXd_E => Sys2Proof.Machine.exec_ddcbDB_SET_3_mIXd_E s
  | .ddcbDC_SET_3_mIXd_H => Sys2Proof.Machine.exec_ddcbDC_SET_3_mIXd_H s
  | .ddcbDD_SET_3_mIXd_L => Sys2Proof.Machine.exec_ddcbDD_SET_3_mIXd_L s
  | .ddcbDE_SET_3_mIXd => Sys2Proof.Machine.exec_ddcbDE_SET_3_mIXd s
  | .ddcbDF_SET_3_mIXd_A => Sys2Proof.Machine.exec_ddcbDF_SET_3_mIXd_A s
  | .ddcbE0_SET_4_mIXd_B => Sys2Proof.Machine.exec_ddcbE0_SET_4_mIXd_B s
  | .ddcbE1_SET_4_mIXd_C => Sys2Proof.Machine.exec_ddcbE1_SET_4_mIXd_C s
  | .ddcbE2_SET_4_mIXd_D => Sys2Proof.Machine.exec_ddcbE2_SET_4_mIXd_D s
  | .ddcbE3_SET_4_mIXd_E => Sys2Proof.Machine.exec_ddcbE3_SET_4_mIXd_E s
  | .ddcbE4_SET_4_mIXd_H => Sys2Proof.Machine.exec_ddcbE4_SET_4_mIXd_H s
  | .ddcbE5_SET_4_mIXd_L => Sys2Proof.Machine.exec_ddcbE5_SET_4_mIXd_L s
  | .ddcbE6_SET_4_mIXd => Sys2Proof.Machine.exec_ddcbE6_SET_4_mIXd s
  | .ddcbE7_SET_4_mIXd_A => Sys2Proof.Machine.exec_ddcbE7_SET_4_mIXd_A s
  | .ddcbE8_SET_5_mIXd_B => Sys2Proof.Machine.exec_ddcbE8_SET_5_mIXd_B s
  | .ddcbE9_SET_5_mIXd_C => Sys2Proof.Machine.exec_ddcbE9_SET_5_mIXd_C s
  | .ddcbEA_SET_5_mIXd_D => Sys2Proof.Machine.exec_ddcbEA_SET_5_mIXd_D s
  | .ddcbEB_SET_5_mIXd_E => Sys2Proof.Machine.exec_ddcbEB_SET_5_mIXd_E s
  | .ddcbEC_SET_5_mIXd_H => Sys2Proof.Machine.exec_ddcbEC_SET_5_mIXd_H s
  | .ddcbED_SET_5_mIXd_L => Sys2Proof.Machine.exec_ddcbED_SET_5_mIXd_L s
  | .ddcbEE_SET_5_mIXd => Sys2Proof.Machine.exec_ddcbEE_SET_5_mIXd s
  | .ddcbEF_SET_5_mIXd_A => Sys2Proof.Machine.exec_ddcbEF_SET_5_mIXd_A s
  | .ddcbF0_SET_6_mIXd_B => Sys2Proof.Machine.exec_ddcbF0_SET_6_mIXd_B s
  | .ddcbF1_SET_6_mIXd_C => Sys2Proof.Machine.exec_ddcbF1_SET_6_mIXd_C s
  | .ddcbF2_SET_6_mIXd_D => Sys2Proof.Machine.exec_ddcbF2_SET_6_mIXd_D s
  | .ddcbF3_SET_6_mIXd_E => Sys2Proof.Machine.exec_ddcbF3_SET_6_mIXd_E s
  | .ddcbF4_SET_6_mIXd_H => Sys2Proof.Machine.exec_ddcbF4_SET_6_mIXd_H s
  | .ddcbF5_SET_6_mIXd_L => Sys2Proof.Machine.exec_ddcbF5_SET_6_mIXd_L s
  | .ddcbF6_SET_6_mIXd => Sys2Proof.Machine.exec_ddcbF6_SET_6_mIXd s
  | .ddcbF7_SET_6_mIXd_A => Sys2Proof.Machine.exec_ddcbF7_SET_6_mIXd_A s
  | .ddcbF8_SET_7_mIXd_B => Sys2Proof.Machine.exec_ddcbF8_SET_7_mIXd_B s
  | .ddcbF9_SET_7_mIXd_C => Sys2Proof.Machine.exec_ddcbF9_SET_7_mIXd_C s
  | .ddcbFA_SET_7_mIXd_D => Sys2Proof.Machine.exec_ddcbFA_SET_7_mIXd_D s
  | .ddcbFB_SET_7_mIXd_E => Sys2Proof.Machine.exec_ddcbFB_SET_7_mIXd_E s
  | .ddcbFC_SET_7_mIXd_H => Sys2Proof.Machine.exec_ddcbFC_SET_7_mIXd_H s
  | .ddcbFD_SET_7_mIXd_L => Sys2Proof.Machine.exec_ddcbFD_SET_7_mIXd_L s
  | .ddcbFE_SET_7_mIXd => Sys2Proof.Machine.exec_ddcbFE_SET_7_mIXd s
  | .ddcbFF_SET_7_mIXd_A => Sys2Proof.Machine.exec_ddcbFF_SET_7_mIXd_A s
  -- FD CB displaced table
  | .fdcb00_RLC_mIYd_B => Sys2Proof.Machine.exec_fdcb00_RLC_mIYd_B s
  | .fdcb01_RLC_mIYd_C => Sys2Proof.Machine.exec_fdcb01_RLC_mIYd_C s
  | .fdcb02_RLC_mIYd_D => Sys2Proof.Machine.exec_fdcb02_RLC_mIYd_D s
  | .fdcb03_RLC_mIYd_E => Sys2Proof.Machine.exec_fdcb03_RLC_mIYd_E s
  | .fdcb04_RLC_mIYd_H => Sys2Proof.Machine.exec_fdcb04_RLC_mIYd_H s
  | .fdcb05_RLC_mIYd_L => Sys2Proof.Machine.exec_fdcb05_RLC_mIYd_L s
  | .fdcb06_RLC_mIYd => Sys2Proof.Machine.exec_fdcb06_RLC_mIYd s
  | .fdcb07_RLC_mIYd_A => Sys2Proof.Machine.exec_fdcb07_RLC_mIYd_A s
  | .fdcb08_RRC_mIYd_B => Sys2Proof.Machine.exec_fdcb08_RRC_mIYd_B s
  | .fdcb09_RRC_mIYd_C => Sys2Proof.Machine.exec_fdcb09_RRC_mIYd_C s
  | .fdcb0A_RRC_mIYd_D => Sys2Proof.Machine.exec_fdcb0A_RRC_mIYd_D s
  | .fdcb0B_RRC_mIYd_E => Sys2Proof.Machine.exec_fdcb0B_RRC_mIYd_E s
  | .fdcb0C_RRC_mIYd_H => Sys2Proof.Machine.exec_fdcb0C_RRC_mIYd_H s
  | .fdcb0D_RRC_mIYd_L => Sys2Proof.Machine.exec_fdcb0D_RRC_mIYd_L s
  | .fdcb0E_RRC_mIYd => Sys2Proof.Machine.exec_fdcb0E_RRC_mIYd s
  | .fdcb0F_RRC_mIYd_A => Sys2Proof.Machine.exec_fdcb0F_RRC_mIYd_A s
  | .fdcb10_RL_mIYd_B => Sys2Proof.Machine.exec_fdcb10_RL_mIYd_B s
  | .fdcb11_RL_mIYd_C => Sys2Proof.Machine.exec_fdcb11_RL_mIYd_C s
  | .fdcb12_RL_mIYd_D => Sys2Proof.Machine.exec_fdcb12_RL_mIYd_D s
  | .fdcb13_RL_mIYd_E => Sys2Proof.Machine.exec_fdcb13_RL_mIYd_E s
  | .fdcb14_RL_mIYd_H => Sys2Proof.Machine.exec_fdcb14_RL_mIYd_H s
  | .fdcb15_RL_mIYd_L => Sys2Proof.Machine.exec_fdcb15_RL_mIYd_L s
  | .fdcb16_RL_mIYd => Sys2Proof.Machine.exec_fdcb16_RL_mIYd s
  | .fdcb17_RL_mIYd_A => Sys2Proof.Machine.exec_fdcb17_RL_mIYd_A s
  | .fdcb18_RR_mIYd_B => Sys2Proof.Machine.exec_fdcb18_RR_mIYd_B s
  | .fdcb19_RR_mIYd_C => Sys2Proof.Machine.exec_fdcb19_RR_mIYd_C s
  | .fdcb1A_RR_mIYd_D => Sys2Proof.Machine.exec_fdcb1A_RR_mIYd_D s
  | .fdcb1B_RR_mIYd_E => Sys2Proof.Machine.exec_fdcb1B_RR_mIYd_E s
  | .fdcb1C_RR_mIYd_H => Sys2Proof.Machine.exec_fdcb1C_RR_mIYd_H s
  | .fdcb1D_RR_mIYd_L => Sys2Proof.Machine.exec_fdcb1D_RR_mIYd_L s
  | .fdcb1E_RR_mIYd => Sys2Proof.Machine.exec_fdcb1E_RR_mIYd s
  | .fdcb1F_RR_mIYd_A => Sys2Proof.Machine.exec_fdcb1F_RR_mIYd_A s
  | .fdcb20_SLA_mIYd_B => Sys2Proof.Machine.exec_fdcb20_SLA_mIYd_B s
  | .fdcb21_SLA_mIYd_C => Sys2Proof.Machine.exec_fdcb21_SLA_mIYd_C s
  | .fdcb22_SLA_mIYd_D => Sys2Proof.Machine.exec_fdcb22_SLA_mIYd_D s
  | .fdcb23_SLA_mIYd_E => Sys2Proof.Machine.exec_fdcb23_SLA_mIYd_E s
  | .fdcb24_SLA_mIYd_H => Sys2Proof.Machine.exec_fdcb24_SLA_mIYd_H s
  | .fdcb25_SLA_mIYd_L => Sys2Proof.Machine.exec_fdcb25_SLA_mIYd_L s
  | .fdcb26_SLA_mIYd => Sys2Proof.Machine.exec_fdcb26_SLA_mIYd s
  | .fdcb27_SLA_mIYd_A => Sys2Proof.Machine.exec_fdcb27_SLA_mIYd_A s
  | .fdcb28_SRA_mIYd_B => Sys2Proof.Machine.exec_fdcb28_SRA_mIYd_B s
  | .fdcb29_SRA_mIYd_C => Sys2Proof.Machine.exec_fdcb29_SRA_mIYd_C s
  | .fdcb2A_SRA_mIYd_D => Sys2Proof.Machine.exec_fdcb2A_SRA_mIYd_D s
  | .fdcb2B_SRA_mIYd_E => Sys2Proof.Machine.exec_fdcb2B_SRA_mIYd_E s
  | .fdcb2C_SRA_mIYd_H => Sys2Proof.Machine.exec_fdcb2C_SRA_mIYd_H s
  | .fdcb2D_SRA_mIYd_L => Sys2Proof.Machine.exec_fdcb2D_SRA_mIYd_L s
  | .fdcb2E_SRA_mIYd => Sys2Proof.Machine.exec_fdcb2E_SRA_mIYd s
  | .fdcb2F_SRA_mIYd_A => Sys2Proof.Machine.exec_fdcb2F_SRA_mIYd_A s
  | .fdcb30_SLL_mIYd_B => Sys2Proof.Machine.exec_fdcb30_SLL_mIYd_B s
  | .fdcb31_SLL_mIYd_C => Sys2Proof.Machine.exec_fdcb31_SLL_mIYd_C s
  | .fdcb32_SLL_mIYd_D => Sys2Proof.Machine.exec_fdcb32_SLL_mIYd_D s
  | .fdcb33_SLL_mIYd_E => Sys2Proof.Machine.exec_fdcb33_SLL_mIYd_E s
  | .fdcb34_SLL_mIYd_H => Sys2Proof.Machine.exec_fdcb34_SLL_mIYd_H s
  | .fdcb35_SLL_mIYd_L => Sys2Proof.Machine.exec_fdcb35_SLL_mIYd_L s
  | .fdcb36_SLL_mIYd => Sys2Proof.Machine.exec_fdcb36_SLL_mIYd s
  | .fdcb37_SLL_mIYd_A => Sys2Proof.Machine.exec_fdcb37_SLL_mIYd_A s
  | .fdcb38_SRL_mIYd_B => Sys2Proof.Machine.exec_fdcb38_SRL_mIYd_B s
  | .fdcb39_SRL_mIYd_C => Sys2Proof.Machine.exec_fdcb39_SRL_mIYd_C s
  | .fdcb3A_SRL_mIYd_D => Sys2Proof.Machine.exec_fdcb3A_SRL_mIYd_D s
  | .fdcb3B_SRL_mIYd_E => Sys2Proof.Machine.exec_fdcb3B_SRL_mIYd_E s
  | .fdcb3C_SRL_mIYd_H => Sys2Proof.Machine.exec_fdcb3C_SRL_mIYd_H s
  | .fdcb3D_SRL_mIYd_L => Sys2Proof.Machine.exec_fdcb3D_SRL_mIYd_L s
  | .fdcb3E_SRL_mIYd => Sys2Proof.Machine.exec_fdcb3E_SRL_mIYd s
  | .fdcb3F_SRL_mIYd_A => Sys2Proof.Machine.exec_fdcb3F_SRL_mIYd_A s
  | .fdcb40_BIT_0_mIYd => Sys2Proof.Machine.exec_fdcb40_BIT_0_mIYd s
  | .fdcb41_BIT_0_mIYd => Sys2Proof.Machine.exec_fdcb41_BIT_0_mIYd s
  | .fdcb42_BIT_0_mIYd => Sys2Proof.Machine.exec_fdcb42_BIT_0_mIYd s
  | .fdcb43_BIT_0_mIYd => Sys2Proof.Machine.exec_fdcb43_BIT_0_mIYd s
  | .fdcb44_BIT_0_mIYd => Sys2Proof.Machine.exec_fdcb44_BIT_0_mIYd s
  | .fdcb45_BIT_0_mIYd => Sys2Proof.Machine.exec_fdcb45_BIT_0_mIYd s
  | .fdcb46_BIT_0_mIYd => Sys2Proof.Machine.exec_fdcb46_BIT_0_mIYd s
  | .fdcb47_BIT_0_mIYd => Sys2Proof.Machine.exec_fdcb47_BIT_0_mIYd s
  | .fdcb48_BIT_1_mIYd => Sys2Proof.Machine.exec_fdcb48_BIT_1_mIYd s
  | .fdcb49_BIT_1_mIYd => Sys2Proof.Machine.exec_fdcb49_BIT_1_mIYd s
  | .fdcb4A_BIT_1_mIYd => Sys2Proof.Machine.exec_fdcb4A_BIT_1_mIYd s
  | .fdcb4B_BIT_1_mIYd => Sys2Proof.Machine.exec_fdcb4B_BIT_1_mIYd s
  | .fdcb4C_BIT_1_mIYd => Sys2Proof.Machine.exec_fdcb4C_BIT_1_mIYd s
  | .fdcb4D_BIT_1_mIYd => Sys2Proof.Machine.exec_fdcb4D_BIT_1_mIYd s
  | .fdcb4E_BIT_1_mIYd => Sys2Proof.Machine.exec_fdcb4E_BIT_1_mIYd s
  | .fdcb4F_BIT_1_mIYd => Sys2Proof.Machine.exec_fdcb4F_BIT_1_mIYd s
  | .fdcb50_BIT_2_mIYd => Sys2Proof.Machine.exec_fdcb50_BIT_2_mIYd s
  | .fdcb51_BIT_2_mIYd => Sys2Proof.Machine.exec_fdcb51_BIT_2_mIYd s
  | .fdcb52_BIT_2_mIYd => Sys2Proof.Machine.exec_fdcb52_BIT_2_mIYd s
  | .fdcb53_BIT_2_mIYd => Sys2Proof.Machine.exec_fdcb53_BIT_2_mIYd s
  | .fdcb54_BIT_2_mIYd => Sys2Proof.Machine.exec_fdcb54_BIT_2_mIYd s
  | .fdcb55_BIT_2_mIYd => Sys2Proof.Machine.exec_fdcb55_BIT_2_mIYd s
  | .fdcb56_BIT_2_mIYd => Sys2Proof.Machine.exec_fdcb56_BIT_2_mIYd s
  | .fdcb57_BIT_2_mIYd => Sys2Proof.Machine.exec_fdcb57_BIT_2_mIYd s
  | .fdcb58_BIT_3_mIYd => Sys2Proof.Machine.exec_fdcb58_BIT_3_mIYd s
  | .fdcb59_BIT_3_mIYd => Sys2Proof.Machine.exec_fdcb59_BIT_3_mIYd s
  | .fdcb5A_BIT_3_mIYd => Sys2Proof.Machine.exec_fdcb5A_BIT_3_mIYd s
  | .fdcb5B_BIT_3_mIYd => Sys2Proof.Machine.exec_fdcb5B_BIT_3_mIYd s
  | .fdcb5C_BIT_3_mIYd => Sys2Proof.Machine.exec_fdcb5C_BIT_3_mIYd s
  | .fdcb5D_BIT_3_mIYd => Sys2Proof.Machine.exec_fdcb5D_BIT_3_mIYd s
  | .fdcb5E_BIT_3_mIYd => Sys2Proof.Machine.exec_fdcb5E_BIT_3_mIYd s
  | .fdcb5F_BIT_3_mIYd => Sys2Proof.Machine.exec_fdcb5F_BIT_3_mIYd s
  | .fdcb60_BIT_4_mIYd => Sys2Proof.Machine.exec_fdcb60_BIT_4_mIYd s
  | .fdcb61_BIT_4_mIYd => Sys2Proof.Machine.exec_fdcb61_BIT_4_mIYd s
  | .fdcb62_BIT_4_mIYd => Sys2Proof.Machine.exec_fdcb62_BIT_4_mIYd s
  | .fdcb63_BIT_4_mIYd => Sys2Proof.Machine.exec_fdcb63_BIT_4_mIYd s
  | .fdcb64_BIT_4_mIYd => Sys2Proof.Machine.exec_fdcb64_BIT_4_mIYd s
  | .fdcb65_BIT_4_mIYd => Sys2Proof.Machine.exec_fdcb65_BIT_4_mIYd s
  | .fdcb66_BIT_4_mIYd => Sys2Proof.Machine.exec_fdcb66_BIT_4_mIYd s
  | .fdcb67_BIT_4_mIYd => Sys2Proof.Machine.exec_fdcb67_BIT_4_mIYd s
  | .fdcb68_BIT_5_mIYd => Sys2Proof.Machine.exec_fdcb68_BIT_5_mIYd s
  | .fdcb69_BIT_5_mIYd => Sys2Proof.Machine.exec_fdcb69_BIT_5_mIYd s
  | .fdcb6A_BIT_5_mIYd => Sys2Proof.Machine.exec_fdcb6A_BIT_5_mIYd s
  | .fdcb6B_BIT_5_mIYd => Sys2Proof.Machine.exec_fdcb6B_BIT_5_mIYd s
  | .fdcb6C_BIT_5_mIYd => Sys2Proof.Machine.exec_fdcb6C_BIT_5_mIYd s
  | .fdcb6D_BIT_5_mIYd => Sys2Proof.Machine.exec_fdcb6D_BIT_5_mIYd s
  | .fdcb6E_BIT_5_mIYd => Sys2Proof.Machine.exec_fdcb6E_BIT_5_mIYd s
  | .fdcb6F_BIT_5_mIYd => Sys2Proof.Machine.exec_fdcb6F_BIT_5_mIYd s
  | .fdcb70_BIT_6_mIYd => Sys2Proof.Machine.exec_fdcb70_BIT_6_mIYd s
  | .fdcb71_BIT_6_mIYd => Sys2Proof.Machine.exec_fdcb71_BIT_6_mIYd s
  | .fdcb72_BIT_6_mIYd => Sys2Proof.Machine.exec_fdcb72_BIT_6_mIYd s
  | .fdcb73_BIT_6_mIYd => Sys2Proof.Machine.exec_fdcb73_BIT_6_mIYd s
  | .fdcb74_BIT_6_mIYd => Sys2Proof.Machine.exec_fdcb74_BIT_6_mIYd s
  | .fdcb75_BIT_6_mIYd => Sys2Proof.Machine.exec_fdcb75_BIT_6_mIYd s
  | .fdcb76_BIT_6_mIYd => Sys2Proof.Machine.exec_fdcb76_BIT_6_mIYd s
  | .fdcb77_BIT_6_mIYd => Sys2Proof.Machine.exec_fdcb77_BIT_6_mIYd s
  | .fdcb78_BIT_7_mIYd => Sys2Proof.Machine.exec_fdcb78_BIT_7_mIYd s
  | .fdcb79_BIT_7_mIYd => Sys2Proof.Machine.exec_fdcb79_BIT_7_mIYd s
  | .fdcb7A_BIT_7_mIYd => Sys2Proof.Machine.exec_fdcb7A_BIT_7_mIYd s
  | .fdcb7B_BIT_7_mIYd => Sys2Proof.Machine.exec_fdcb7B_BIT_7_mIYd s
  | .fdcb7C_BIT_7_mIYd => Sys2Proof.Machine.exec_fdcb7C_BIT_7_mIYd s
  | .fdcb7D_BIT_7_mIYd => Sys2Proof.Machine.exec_fdcb7D_BIT_7_mIYd s
  | .fdcb7E_BIT_7_mIYd => Sys2Proof.Machine.exec_fdcb7E_BIT_7_mIYd s
  | .fdcb7F_BIT_7_mIYd => Sys2Proof.Machine.exec_fdcb7F_BIT_7_mIYd s
  | .fdcb80_RES_0_mIYd_B => Sys2Proof.Machine.exec_fdcb80_RES_0_mIYd_B s
  | .fdcb81_RES_0_mIYd_C => Sys2Proof.Machine.exec_fdcb81_RES_0_mIYd_C s
  | .fdcb82_RES_0_mIYd_D => Sys2Proof.Machine.exec_fdcb82_RES_0_mIYd_D s
  | .fdcb83_RES_0_mIYd_E => Sys2Proof.Machine.exec_fdcb83_RES_0_mIYd_E s
  | .fdcb84_RES_0_mIYd_H => Sys2Proof.Machine.exec_fdcb84_RES_0_mIYd_H s
  | .fdcb85_RES_0_mIYd_L => Sys2Proof.Machine.exec_fdcb85_RES_0_mIYd_L s
  | .fdcb86_RES_0_mIYd => Sys2Proof.Machine.exec_fdcb86_RES_0_mIYd s
  | .fdcb87_RES_0_mIYd_A => Sys2Proof.Machine.exec_fdcb87_RES_0_mIYd_A s
  | .fdcb88_RES_1_mIYd_B => Sys2Proof.Machine.exec_fdcb88_RES_1_mIYd_B s
  | .fdcb89_RES_1_mIYd_C => Sys2Proof.Machine.exec_fdcb89_RES_1_mIYd_C s
  | .fdcb8A_RES_1_mIYd_D => Sys2Proof.Machine.exec_fdcb8A_RES_1_mIYd_D s
  | .fdcb8B_RES_1_mIYd_E => Sys2Proof.Machine.exec_fdcb8B_RES_1_mIYd_E s
  | .fdcb8C_RES_1_mIYd_H => Sys2Proof.Machine.exec_fdcb8C_RES_1_mIYd_H s
  | .fdcb8D_RES_1_mIYd_L => Sys2Proof.Machine.exec_fdcb8D_RES_1_mIYd_L s
  | .fdcb8E_RES_1_mIYd => Sys2Proof.Machine.exec_fdcb8E_RES_1_mIYd s
  | .fdcb8F_RES_1_mIYd_A => Sys2Proof.Machine.exec_fdcb8F_RES_1_mIYd_A s
  | .fdcb90_RES_2_mIYd_B => Sys2Proof.Machine.exec_fdcb90_RES_2_mIYd_B s
  | .fdcb91_RES_2_mIYd_C => Sys2Proof.Machine.exec_fdcb91_RES_2_mIYd_C s
  | .fdcb92_RES_2_mIYd_D => Sys2Proof.Machine.exec_fdcb92_RES_2_mIYd_D s
  | .fdcb93_RES_2_mIYd_E => Sys2Proof.Machine.exec_fdcb93_RES_2_mIYd_E s
  | .fdcb94_RES_2_mIYd_H => Sys2Proof.Machine.exec_fdcb94_RES_2_mIYd_H s
  | .fdcb95_RES_2_mIYd_L => Sys2Proof.Machine.exec_fdcb95_RES_2_mIYd_L s
  | .fdcb96_RES_2_mIYd => Sys2Proof.Machine.exec_fdcb96_RES_2_mIYd s
  | .fdcb97_RES_2_mIYd_A => Sys2Proof.Machine.exec_fdcb97_RES_2_mIYd_A s
  | .fdcb98_RES_3_mIYd_B => Sys2Proof.Machine.exec_fdcb98_RES_3_mIYd_B s
  | .fdcb99_RES_3_mIYd_C => Sys2Proof.Machine.exec_fdcb99_RES_3_mIYd_C s
  | .fdcb9A_RES_3_mIYd_D => Sys2Proof.Machine.exec_fdcb9A_RES_3_mIYd_D s
  | .fdcb9B_RES_3_mIYd_E => Sys2Proof.Machine.exec_fdcb9B_RES_3_mIYd_E s
  | .fdcb9C_RES_3_mIYd_H => Sys2Proof.Machine.exec_fdcb9C_RES_3_mIYd_H s
  | .fdcb9D_RES_3_mIYd_L => Sys2Proof.Machine.exec_fdcb9D_RES_3_mIYd_L s
  | .fdcb9E_RES_3_mIYd => Sys2Proof.Machine.exec_fdcb9E_RES_3_mIYd s
  | .fdcb9F_RES_3_mIYd_A => Sys2Proof.Machine.exec_fdcb9F_RES_3_mIYd_A s
  | .fdcbA0_RES_4_mIYd_B => Sys2Proof.Machine.exec_fdcbA0_RES_4_mIYd_B s
  | .fdcbA1_RES_4_mIYd_C => Sys2Proof.Machine.exec_fdcbA1_RES_4_mIYd_C s
  | .fdcbA2_RES_4_mIYd_D => Sys2Proof.Machine.exec_fdcbA2_RES_4_mIYd_D s
  | .fdcbA3_RES_4_mIYd_E => Sys2Proof.Machine.exec_fdcbA3_RES_4_mIYd_E s
  | .fdcbA4_RES_4_mIYd_H => Sys2Proof.Machine.exec_fdcbA4_RES_4_mIYd_H s
  | .fdcbA5_RES_4_mIYd_L => Sys2Proof.Machine.exec_fdcbA5_RES_4_mIYd_L s
  | .fdcbA6_RES_4_mIYd => Sys2Proof.Machine.exec_fdcbA6_RES_4_mIYd s
  | .fdcbA7_RES_4_mIYd_A => Sys2Proof.Machine.exec_fdcbA7_RES_4_mIYd_A s
  | .fdcbA8_RES_5_mIYd_B => Sys2Proof.Machine.exec_fdcbA8_RES_5_mIYd_B s
  | .fdcbA9_RES_5_mIYd_C => Sys2Proof.Machine.exec_fdcbA9_RES_5_mIYd_C s
  | .fdcbAA_RES_5_mIYd_D => Sys2Proof.Machine.exec_fdcbAA_RES_5_mIYd_D s
  | .fdcbAB_RES_5_mIYd_E => Sys2Proof.Machine.exec_fdcbAB_RES_5_mIYd_E s
  | .fdcbAC_RES_5_mIYd_H => Sys2Proof.Machine.exec_fdcbAC_RES_5_mIYd_H s
  | .fdcbAD_RES_5_mIYd_L => Sys2Proof.Machine.exec_fdcbAD_RES_5_mIYd_L s
  | .fdcbAE_RES_5_mIYd => Sys2Proof.Machine.exec_fdcbAE_RES_5_mIYd s
  | .fdcbAF_RES_5_mIYd_A => Sys2Proof.Machine.exec_fdcbAF_RES_5_mIYd_A s
  | .fdcbB0_RES_6_mIYd_B => Sys2Proof.Machine.exec_fdcbB0_RES_6_mIYd_B s
  | .fdcbB1_RES_6_mIYd_C => Sys2Proof.Machine.exec_fdcbB1_RES_6_mIYd_C s
  | .fdcbB2_RES_6_mIYd_D => Sys2Proof.Machine.exec_fdcbB2_RES_6_mIYd_D s
  | .fdcbB3_RES_6_mIYd_E => Sys2Proof.Machine.exec_fdcbB3_RES_6_mIYd_E s
  | .fdcbB4_RES_6_mIYd_H => Sys2Proof.Machine.exec_fdcbB4_RES_6_mIYd_H s
  | .fdcbB5_RES_6_mIYd_L => Sys2Proof.Machine.exec_fdcbB5_RES_6_mIYd_L s
  | .fdcbB6_RES_6_mIYd => Sys2Proof.Machine.exec_fdcbB6_RES_6_mIYd s
  | .fdcbB7_RES_6_mIYd_A => Sys2Proof.Machine.exec_fdcbB7_RES_6_mIYd_A s
  | .fdcbB8_RES_7_mIYd_B => Sys2Proof.Machine.exec_fdcbB8_RES_7_mIYd_B s
  | .fdcbB9_RES_7_mIYd_C => Sys2Proof.Machine.exec_fdcbB9_RES_7_mIYd_C s
  | .fdcbBA_RES_7_mIYd_D => Sys2Proof.Machine.exec_fdcbBA_RES_7_mIYd_D s
  | .fdcbBB_RES_7_mIYd_E => Sys2Proof.Machine.exec_fdcbBB_RES_7_mIYd_E s
  | .fdcbBC_RES_7_mIYd_H => Sys2Proof.Machine.exec_fdcbBC_RES_7_mIYd_H s
  | .fdcbBD_RES_7_mIYd_L => Sys2Proof.Machine.exec_fdcbBD_RES_7_mIYd_L s
  | .fdcbBE_RES_7_mIYd => Sys2Proof.Machine.exec_fdcbBE_RES_7_mIYd s
  | .fdcbBF_RES_7_mIYd_A => Sys2Proof.Machine.exec_fdcbBF_RES_7_mIYd_A s
  | .fdcbC0_SET_0_mIYd_B => Sys2Proof.Machine.exec_fdcbC0_SET_0_mIYd_B s
  | .fdcbC1_SET_0_mIYd_C => Sys2Proof.Machine.exec_fdcbC1_SET_0_mIYd_C s
  | .fdcbC2_SET_0_mIYd_D => Sys2Proof.Machine.exec_fdcbC2_SET_0_mIYd_D s
  | .fdcbC3_SET_0_mIYd_E => Sys2Proof.Machine.exec_fdcbC3_SET_0_mIYd_E s
  | .fdcbC4_SET_0_mIYd_H => Sys2Proof.Machine.exec_fdcbC4_SET_0_mIYd_H s
  | .fdcbC5_SET_0_mIYd_L => Sys2Proof.Machine.exec_fdcbC5_SET_0_mIYd_L s
  | .fdcbC6_SET_0_mIYd => Sys2Proof.Machine.exec_fdcbC6_SET_0_mIYd s
  | .fdcbC7_SET_0_mIYd_A => Sys2Proof.Machine.exec_fdcbC7_SET_0_mIYd_A s
  | .fdcbC8_SET_1_mIYd_B => Sys2Proof.Machine.exec_fdcbC8_SET_1_mIYd_B s
  | .fdcbC9_SET_1_mIYd_C => Sys2Proof.Machine.exec_fdcbC9_SET_1_mIYd_C s
  | .fdcbCA_SET_1_mIYd_D => Sys2Proof.Machine.exec_fdcbCA_SET_1_mIYd_D s
  | .fdcbCB_SET_1_mIYd_E => Sys2Proof.Machine.exec_fdcbCB_SET_1_mIYd_E s
  | .fdcbCC_SET_1_mIYd_H => Sys2Proof.Machine.exec_fdcbCC_SET_1_mIYd_H s
  | .fdcbCD_SET_1_mIYd_L => Sys2Proof.Machine.exec_fdcbCD_SET_1_mIYd_L s
  | .fdcbCE_SET_1_mIYd => Sys2Proof.Machine.exec_fdcbCE_SET_1_mIYd s
  | .fdcbCF_SET_1_mIYd_A => Sys2Proof.Machine.exec_fdcbCF_SET_1_mIYd_A s
  | .fdcbD0_SET_2_mIYd_B => Sys2Proof.Machine.exec_fdcbD0_SET_2_mIYd_B s
  | .fdcbD1_SET_2_mIYd_C => Sys2Proof.Machine.exec_fdcbD1_SET_2_mIYd_C s
  | .fdcbD2_SET_2_mIYd_D => Sys2Proof.Machine.exec_fdcbD2_SET_2_mIYd_D s
  | .fdcbD3_SET_2_mIYd_E => Sys2Proof.Machine.exec_fdcbD3_SET_2_mIYd_E s
  | .fdcbD4_SET_2_mIYd_H => Sys2Proof.Machine.exec_fdcbD4_SET_2_mIYd_H s
  | .fdcbD5_SET_2_mIYd_L => Sys2Proof.Machine.exec_fdcbD5_SET_2_mIYd_L s
  | .fdcbD6_SET_2_mIYd => Sys2Proof.Machine.exec_fdcbD6_SET_2_mIYd s
  | .fdcbD7_SET_2_mIYd_A => Sys2Proof.Machine.exec_fdcbD7_SET_2_mIYd_A s
  | .fdcbD8_SET_3_mIYd_B => Sys2Proof.Machine.exec_fdcbD8_SET_3_mIYd_B s
  | .fdcbD9_SET_3_mIYd_C => Sys2Proof.Machine.exec_fdcbD9_SET_3_mIYd_C s
  | .fdcbDA_SET_3_mIYd_D => Sys2Proof.Machine.exec_fdcbDA_SET_3_mIYd_D s
  | .fdcbDB_SET_3_mIYd_E => Sys2Proof.Machine.exec_fdcbDB_SET_3_mIYd_E s
  | .fdcbDC_SET_3_mIYd_H => Sys2Proof.Machine.exec_fdcbDC_SET_3_mIYd_H s
  | .fdcbDD_SET_3_mIYd_L => Sys2Proof.Machine.exec_fdcbDD_SET_3_mIYd_L s
  | .fdcbDE_SET_3_mIYd => Sys2Proof.Machine.exec_fdcbDE_SET_3_mIYd s
  | .fdcbDF_SET_3_mIYd_A => Sys2Proof.Machine.exec_fdcbDF_SET_3_mIYd_A s
  | .fdcbE0_SET_4_mIYd_B => Sys2Proof.Machine.exec_fdcbE0_SET_4_mIYd_B s
  | .fdcbE1_SET_4_mIYd_C => Sys2Proof.Machine.exec_fdcbE1_SET_4_mIYd_C s
  | .fdcbE2_SET_4_mIYd_D => Sys2Proof.Machine.exec_fdcbE2_SET_4_mIYd_D s
  | .fdcbE3_SET_4_mIYd_E => Sys2Proof.Machine.exec_fdcbE3_SET_4_mIYd_E s
  | .fdcbE4_SET_4_mIYd_H => Sys2Proof.Machine.exec_fdcbE4_SET_4_mIYd_H s
  | .fdcbE5_SET_4_mIYd_L => Sys2Proof.Machine.exec_fdcbE5_SET_4_mIYd_L s
  | .fdcbE6_SET_4_mIYd => Sys2Proof.Machine.exec_fdcbE6_SET_4_mIYd s
  | .fdcbE7_SET_4_mIYd_A => Sys2Proof.Machine.exec_fdcbE7_SET_4_mIYd_A s
  | .fdcbE8_SET_5_mIYd_B => Sys2Proof.Machine.exec_fdcbE8_SET_5_mIYd_B s
  | .fdcbE9_SET_5_mIYd_C => Sys2Proof.Machine.exec_fdcbE9_SET_5_mIYd_C s
  | .fdcbEA_SET_5_mIYd_D => Sys2Proof.Machine.exec_fdcbEA_SET_5_mIYd_D s
  | .fdcbEB_SET_5_mIYd_E => Sys2Proof.Machine.exec_fdcbEB_SET_5_mIYd_E s
  | .fdcbEC_SET_5_mIYd_H => Sys2Proof.Machine.exec_fdcbEC_SET_5_mIYd_H s
  | .fdcbED_SET_5_mIYd_L => Sys2Proof.Machine.exec_fdcbED_SET_5_mIYd_L s
  | .fdcbEE_SET_5_mIYd => Sys2Proof.Machine.exec_fdcbEE_SET_5_mIYd s
  | .fdcbEF_SET_5_mIYd_A => Sys2Proof.Machine.exec_fdcbEF_SET_5_mIYd_A s
  | .fdcbF0_SET_6_mIYd_B => Sys2Proof.Machine.exec_fdcbF0_SET_6_mIYd_B s
  | .fdcbF1_SET_6_mIYd_C => Sys2Proof.Machine.exec_fdcbF1_SET_6_mIYd_C s
  | .fdcbF2_SET_6_mIYd_D => Sys2Proof.Machine.exec_fdcbF2_SET_6_mIYd_D s
  | .fdcbF3_SET_6_mIYd_E => Sys2Proof.Machine.exec_fdcbF3_SET_6_mIYd_E s
  | .fdcbF4_SET_6_mIYd_H => Sys2Proof.Machine.exec_fdcbF4_SET_6_mIYd_H s
  | .fdcbF5_SET_6_mIYd_L => Sys2Proof.Machine.exec_fdcbF5_SET_6_mIYd_L s
  | .fdcbF6_SET_6_mIYd => Sys2Proof.Machine.exec_fdcbF6_SET_6_mIYd s
  | .fdcbF7_SET_6_mIYd_A => Sys2Proof.Machine.exec_fdcbF7_SET_6_mIYd_A s
  | .fdcbF8_SET_7_mIYd_B => Sys2Proof.Machine.exec_fdcbF8_SET_7_mIYd_B s
  | .fdcbF9_SET_7_mIYd_C => Sys2Proof.Machine.exec_fdcbF9_SET_7_mIYd_C s
  | .fdcbFA_SET_7_mIYd_D => Sys2Proof.Machine.exec_fdcbFA_SET_7_mIYd_D s
  | .fdcbFB_SET_7_mIYd_E => Sys2Proof.Machine.exec_fdcbFB_SET_7_mIYd_E s
  | .fdcbFC_SET_7_mIYd_H => Sys2Proof.Machine.exec_fdcbFC_SET_7_mIYd_H s
  | .fdcbFD_SET_7_mIYd_L => Sys2Proof.Machine.exec_fdcbFD_SET_7_mIYd_L s
  | .fdcbFE_SET_7_mIYd => Sys2Proof.Machine.exec_fdcbFE_SET_7_mIYd s
  | .fdcbFF_SET_7_mIYd_A => Sys2Proof.Machine.exec_fdcbFF_SET_7_mIYd_A s

end Sys2Proof.Machine
end

