-- ==== Sys2Proof/Machine/Step.lean ====
section
/-! DEFINITION. One step of the block (40_decoder.md R130, R146), and where a table word is placed for the next step. -/

namespace Sys2Proof.Machine

/-- One step of a running decoder on the default table set: decode the bytes at the cursor and run the
instruction they select, or stop at the end of the stream (40_decoder.md R130 with the tables of files 41-47). An
instruction that the stream cuts short runs too: its meaning is the stop its rule gives as its corner case. -/
def stepStandard (s : State) : Outcome :=
  match decode (s.stream.drop s.off) with
  | .instr i _ _ => exec i s
  | .truncated i _ => exec i s
  | .endOfStream => .next (s.stop .endOfStream)
  | .noEntry => .refused .illFormedTables

/-- One step. An ill-formed table set is refused (30_encoding.md R97); a stopped run has no step
(40_decoder.md R146); a running decoder takes the step of 40_decoder.md R130. A step has no duration: DESIGN CHOICE
(safe), log 17. -/
def step (s : State) : Host.Outcome State Fault Refusal :=
  if s.tablesOk then
    match s.run with
    | .stopped _ => .refused .runStopped
    | .running =>
      match s.tables with
      | .standard => stepStandard s
      | .replacement T => Engine.step T s
  else .refused .illFormedTables

/-- The state whose next step fetches the table word `w` of `nbits` bits: its bytes stand in the stream at the
cursor, the run is running, and the default tables decode. The host's load of the stream
(70_reset_and_hazards.md R302) is what this stands for; log 3. -/
def State.withFetchWord (s : State) (nbits w : Nat) : State :=
  let bytes := tableWordBytes nbits w
  let before := s.stream.take s.off
  { s with
    stream := before ++ List.replicate (s.off - before.length) 0 ++ bytes ++
      s.stream.drop (s.off + bytes.length)
    run := .running
    tables := .standard
    placeholder := if mnemonicText s.placeholder then s.placeholder else "NOP" }

end Sys2Proof.Machine
end

