-- ==== Sys2Proof/Machine/Listing.lean ====
section
/-! DEFINITION. The text of a line and of a listing (40_decoder.md R144, R145). -/

namespace Sys2Proof.Machine

/-- A hexadecimal digit, lowercase (92_eei_decisions.md D10). -/
def hexDigit (n : Nat) : Char :=
  if n < 10 then Char.ofNat ('0'.toNat + n) else Char.ofNat ('a'.toNat + (n - 10))

/-- `k` hexadecimal digits of `n`, most significant first, zero-padded. -/
def hexDigits : Nat → Nat → List Char
  | 0, _ => []
  | k + 1, n => hexDigits k (n / 16) ++ [hexDigit (n % 16)]

/-- `hex2`: exactly two digits (40_decoder.md R144). -/
def hex2 (b : Byte) : String := String.ofList (hexDigits 2 b.toNat)

/-- `hex4`: exactly four digits (40_decoder.md R144). -/
def hex4 (w : Word) : String := String.ofList (hexDigits 4 w.toNat)

/-- The operand part of a line: empty, or ` #` and the digits of the operand's width (40_decoder.md R144, R155). -/
def operandText : Operand → String
  | .none => ""
  | .u8 v => " #" ++ hex2 v
  | .u16 v => " #" ++ hex4 v

/-- The text of a line, ended by one LF (40_decoder.md R144; 92_eei_decisions.md D11). -/
def DecodedLine.text (l : DecodedLine) : String :=
  hex4 l.address ++ ": " ++ l.mnemonic ++ operandText l.operand ++ "\n"

/-- The listing: the texts of the lines, in order (40_decoder.md R145). -/
def listing : List DecodedLine → String
  | [] => ""
  | l :: ls => l.text ++ listing ls

end Sys2Proof.Machine
end

