-- ==== Sys2Proof/Machine/Run.lean ====
section
/-! DEFINITION. A run: steps from the start of a stream until the decoder stops (40_decoder.md R146). -/

namespace Sys2Proof.Machine

/-- At most `k` steps, each applied "while `run = Running`" (40_decoder.md R146). A refused step leaves the state.
Nothing aborts a run: DESIGN CHOICE (unsafe), log 15. -/
def runSteps : Nat → State → State
  | 0, s => s
  | k + 1, s =>
    match s.run with
    | .stopped _ => s
    | .running =>
      match step s with
      | .next t => runSteps k t
      | .fault _ => s
      | .refused _ => s

/-- `decode(S)`: the final `out` of the run on a stream (40_decoder.md R146), within the `N + 1` steps of R147.
`none` where the table set is refused before the run (30_encoding.md R97). -/
def decodeStream (tables : TableChoice) (placeholder : String) (stream : List Byte) :
    Option (List DecodedLine) :=
  match boot stream tables placeholder with
  | .next s => some (runSteps (stream.length + 1) s).out
  | .fault _ => none
  | .refused _ => none

end Sys2Proof.Machine
end

