-- ==== Sys2Proof/Machine/Decoders.lean ====
section
/-! DEFINITION. Several decoders at the same time, each over its own stream with its own state, all reading one shared table set (60_exceptions.md R211; 10_state.md R34). -/

namespace Sys2Proof.Machine

/-- What one decoder of a group owns: its stream and the record of 10_state.md R20. It has no identifier
(60_exceptions.md R211). -/
structure Decoder where
  stream : List Byte
  off : Nat
  addr : Word
  run : RunState
  out : List DecodedLine
deriving DecidableEq, Repr

/-- A group of decoders. The tables stand once and are shared; the decoders have nothing else in common. -/
structure DecoderGroup where
  tables : TableChoice
  placeholder : String
  decoders : List Decoder
deriving DecidableEq, Repr

/-- The part of a state that a decoder owns. -/
def State.decoder (s : State) : Decoder where
  stream := s.stream
  off := s.off
  addr := s.addr
  run := s.run
  out := s.out

/-- What a decoder of the group steps on: its own record and the shared tables. -/
def DecoderGroup.state (g : DecoderGroup) (d : Decoder) : State where
  stream := d.stream
  tables := g.tables
  placeholder := g.placeholder
  off := d.off
  addr := d.addr
  run := d.run
  out := d.out

/-- A group right after reset: one decoder for each stream (70_reset_and_hazards.md R300, R302). -/
def DecoderGroup.start (tables : TableChoice) (placeholder : String) (streams : List (List Byte)) : DecoderGroup where
  tables := tables
  placeholder := placeholder
  decoders := streams.map fun stream => (State.start stream tables placeholder).decoder

/-- Decoder `k` takes a step; one that has no step, or does not exist, leaves the group as it is. -/
def DecoderGroup.stepAt (g : DecoderGroup) (k : Nat) : DecoderGroup :=
  match g.decoders[k]? with
  | none => g
  | some d =>
    match step (g.state d) with
    | .next t => { g with decoders := g.decoders.set k t.decoder }
    | .fault _ => g
    | .refused _ => g

/-- The decoders step one at a time in the order of a schedule. The spec orders no step of one decoder against a step of
another; every order is a schedule. DEDUCED (safe), log 18. -/
def DecoderGroup.runSchedule : DecoderGroup → List Nat → DecoderGroup
  | g, [] => g
  | g, k :: ks => (g.stepAt k).runSchedule ks

end Sys2Proof.Machine
end

