-- ==== Sys2Proof/Machine/Groups.lean ====
section
/-! DEFINITION. The rows that two rules of 40_decoder.md speak of as families: the control transfers of R150 and the system instructions of R151, with the mnemonic and length files 41, 43, 44 and 45 give them. -/

namespace Sys2Proof.Machine

/-- A row as its rule writes it: the instruction, and `Plain(mnemonic, length)`. -/
structure LineRow where
  instr : Instr
  mnemonic : String
  length : Nat
deriving DecidableEq

/-- The bytes of the first word of a mnemonic. -/
def firstWord (m : String) : List UInt8 := m.toByteArray.data.toList.takeWhile (· != 0x20)

/-- A jump, call, return, `RST` or `DJNZ` (40_decoder.md R150), by the first word of the mnemonic (30_encoding.md R101). -/
def isControlTransfer (m : String) : Bool :=
  ["JP", "JR", "DJNZ", "CALL", "RET", "RETI", "RETN", "RST"].any fun w => firstWord m == firstWord w

/-- A system or privileged instruction (40_decoder.md R151): the interrupt, input and output instructions and the loads of
and from `I` and `R`. -/
def isSystemInstruction (m : String) : Bool :=
  (["HALT", "DI", "EI", "IM", "RETN", "RETI", "IN", "OUT",
    "INI", "IND", "INIR", "INDR", "OUTI", "OUTD", "OTIR", "OTDR"].any fun w => firstWord m == firstWord w) ||
  ["LD I,A", "LD R,A", "LD A,I", "LD A,R"].any fun w => m == w

/-- Control transfers of the primary table. -/
def controlPrimary : List LineRow := [
  ⟨.p10_DJNZ_e, "DJNZ e", 2⟩, ⟨.p18_JR_e, "JR e", 2⟩, ⟨.p20_JR_NZ_e, "JR NZ,e", 2⟩, ⟨.p28_JR_Z_e, "JR Z,e", 2⟩,
  ⟨.p30_JR_NC_e, "JR NC,e", 2⟩, ⟨.p38_JR_C_e, "JR C,e", 2⟩, ⟨.pC0_RET_NZ, "RET NZ", 1⟩,
  ⟨.pC2_JP_NZ_nn, "JP NZ,nn", 3⟩, ⟨.pC3_JP_nn, "JP nn", 3⟩, ⟨.pC4_CALL_NZ_nn, "CALL NZ,nn", 3⟩,
  ⟨.pC7_RST_00H, "RST 00H", 1⟩, ⟨.pC8_RET_Z, "RET Z", 1⟩, ⟨.pC9_RET, "RET", 1⟩, ⟨.pCA_JP_Z_nn, "JP Z,nn", 3⟩,
  ⟨.pCC_CALL_Z_nn, "CALL Z,nn", 3⟩, ⟨.pCD_CALL_nn, "CALL nn", 3⟩, ⟨.pCF_RST_08H, "RST 08H", 1⟩,
  ⟨.pD0_RET_NC, "RET NC", 1⟩, ⟨.pD2_JP_NC_nn, "JP NC,nn", 3⟩, ⟨.pD4_CALL_NC_nn, "CALL NC,nn", 3⟩,
  ⟨.pD7_RST_10H, "RST 10H", 1⟩, ⟨.pD8_RET_C, "RET C", 1⟩, ⟨.pDA_JP_C_nn, "JP C,nn", 3⟩,
  ⟨.pDC_CALL_C_nn, "CALL C,nn", 3⟩, ⟨.pDF_RST_18H, "RST 18H", 1⟩, ⟨.pE0_RET_PO, "RET PO", 1⟩,
  ⟨.pE2_JP_PO_nn, "JP PO,nn", 3⟩, ⟨.pE4_CALL_PO_nn, "CALL PO,nn", 3⟩, ⟨.pE7_RST_20H, "RST 20H", 1⟩,
  ⟨.pE8_RET_PE, "RET PE", 1⟩, ⟨.pE9_JP_mHL, "JP (HL)", 1⟩, ⟨.pEA_JP_PE_nn, "JP PE,nn", 3⟩,
  ⟨.pEC_CALL_PE_nn, "CALL PE,nn", 3⟩, ⟨.pEF_RST_28H, "RST 28H", 1⟩, ⟨.pF0_RET_P, "RET P", 1⟩,
  ⟨.pF2_JP_P_nn, "JP P,nn", 3⟩, ⟨.pF4_CALL_P_nn, "CALL P,nn", 3⟩, ⟨.pF7_RST_30H, "RST 30H", 1⟩,
  ⟨.pF8_RET_M, "RET M", 1⟩, ⟨.pFA_JP_M_nn, "JP M,nn", 3⟩, ⟨.pFC_CALL_M_nn, "CALL M,nn", 3⟩,
  ⟨.pFF_RST_38H, "RST 38H", 1⟩]

/-- Control transfers of the ED table. -/
def controlEd : List LineRow := [
  ⟨.ed45_RETN, "RETN", 1⟩, ⟨.ed4D_RETI, "RETI", 1⟩, ⟨.ed55_RETN, "RETN", 1⟩, ⟨.ed5D_RETN, "RETN", 1⟩,
  ⟨.ed65_RETN, "RETN", 1⟩, ⟨.ed6D_RETN, "RETN", 1⟩, ⟨.ed75_RETN, "RETN", 1⟩, ⟨.ed7D_RETN, "RETN", 1⟩]

/-- Control transfers of the DD table. -/
def controlDd : List LineRow := [
  ⟨.dd10_DJNZ_e, "DJNZ e", 2⟩, ⟨.dd18_JR_e, "JR e", 2⟩, ⟨.dd20_JR_NZ_e, "JR NZ,e", 2⟩, ⟨.dd28_JR_Z_e, "JR Z,e", 2⟩,
  ⟨.dd30_JR_NC_e, "JR NC,e", 2⟩, ⟨.dd38_JR_C_e, "JR C,e", 2⟩, ⟨.ddC0_RET_NZ, "RET NZ", 1⟩,
  ⟨.ddC2_JP_NZ_nn, "JP NZ,nn", 3⟩, ⟨.ddC3_JP_nn, "JP nn", 3⟩, ⟨.ddC4_CALL_NZ_nn, "CALL NZ,nn", 3⟩,
  ⟨.ddC7_RST_00H, "RST 00H", 1⟩, ⟨.ddC8_RET_Z, "RET Z", 1⟩, ⟨.ddC9_RET, "RET", 1⟩, ⟨.ddCA_JP_Z_nn, "JP Z,nn", 3⟩,
  ⟨.ddCC_CALL_Z_nn, "CALL Z,nn", 3⟩, ⟨.ddCD_CALL_nn, "CALL nn", 3⟩, ⟨.ddCF_RST_08H, "RST 08H", 1⟩,
  ⟨.ddD0_RET_NC, "RET NC", 1⟩, ⟨.ddD2_JP_NC_nn, "JP NC,nn", 3⟩, ⟨.ddD4_CALL_NC_nn, "CALL NC,nn", 3⟩,
  ⟨.ddD7_RST_10H, "RST 10H", 1⟩, ⟨.ddD8_RET_C, "RET C", 1⟩, ⟨.ddDA_JP_C_nn, "JP C,nn", 3⟩,
  ⟨.ddDC_CALL_C_nn, "CALL C,nn", 3⟩, ⟨.ddDF_RST_18H, "RST 18H", 1⟩, ⟨.ddE0_RET_PO, "RET PO", 1⟩,
  ⟨.ddE2_JP_PO_nn, "JP PO,nn", 3⟩, ⟨.ddE4_CALL_PO_nn, "CALL PO,nn", 3⟩, ⟨.ddE7_RST_20H, "RST 20H", 1⟩,
  ⟨.ddE8_RET_PE, "RET PE", 1⟩, ⟨.ddE9_JP_mIX, "JP (IX)", 1⟩, ⟨.ddEA_JP_PE_nn, "JP PE,nn", 3⟩,
  ⟨.ddEC_CALL_PE_nn, "CALL PE,nn", 3⟩, ⟨.ddEF_RST_28H, "RST 28H", 1⟩, ⟨.ddF0_RET_P, "RET P", 1⟩,
  ⟨.ddF2_JP_P_nn, "JP P,nn", 3⟩, ⟨.ddF4_CALL_P_nn, "CALL P,nn", 3⟩, ⟨.ddF7_RST_30H, "RST 30H", 1⟩,
  ⟨.ddF8_RET_M, "RET M", 1⟩, ⟨.ddFA_JP_M_nn, "JP M,nn", 3⟩, ⟨.ddFC_CALL_M_nn, "CALL M,nn", 3⟩,
  ⟨.ddFF_RST_38H, "RST 38H", 1⟩]

/-- Control transfers of the FD table. -/
def controlFd : List LineRow := [
  ⟨.fd10_DJNZ_e, "DJNZ e", 2⟩, ⟨.fd18_JR_e, "JR e", 2⟩, ⟨.fd20_JR_NZ_e, "JR NZ,e", 2⟩, ⟨.fd28_JR_Z_e, "JR Z,e", 2⟩,
  ⟨.fd30_JR_NC_e, "JR NC,e", 2⟩, ⟨.fd38_JR_C_e, "JR C,e", 2⟩, ⟨.fdC0_RET_NZ, "RET NZ", 1⟩,
  ⟨.fdC2_JP_NZ_nn, "JP NZ,nn", 3⟩, ⟨.fdC3_JP_nn, "JP nn", 3⟩, ⟨.fdC4_CALL_NZ_nn, "CALL NZ,nn", 3⟩,
  ⟨.fdC7_RST_00H, "RST 00H", 1⟩, ⟨.fdC8_RET_Z, "RET Z", 1⟩, ⟨.fdC9_RET, "RET", 1⟩, ⟨.fdCA_JP_Z_nn, "JP Z,nn", 3⟩,
  ⟨.fdCC_CALL_Z_nn, "CALL Z,nn", 3⟩, ⟨.fdCD_CALL_nn, "CALL nn", 3⟩, ⟨.fdCF_RST_08H, "RST 08H", 1⟩,
  ⟨.fdD0_RET_NC, "RET NC", 1⟩, ⟨.fdD2_JP_NC_nn, "JP NC,nn", 3⟩, ⟨.fdD4_CALL_NC_nn, "CALL NC,nn", 3⟩,
  ⟨.fdD7_RST_10H, "RST 10H", 1⟩, ⟨.fdD8_RET_C, "RET C", 1⟩, ⟨.fdDA_JP_C_nn, "JP C,nn", 3⟩,
  ⟨.fdDC_CALL_C_nn, "CALL C,nn", 3⟩, ⟨.fdDF_RST_18H, "RST 18H", 1⟩, ⟨.fdE0_RET_PO, "RET PO", 1⟩,
  ⟨.fdE2_JP_PO_nn, "JP PO,nn", 3⟩, ⟨.fdE4_CALL_PO_nn, "CALL PO,nn", 3⟩, ⟨.fdE7_RST_20H, "RST 20H", 1⟩,
  ⟨.fdE8_RET_PE, "RET PE", 1⟩, ⟨.fdE9_JP_mIY, "JP (IY)", 1⟩, ⟨.fdEA_JP_PE_nn, "JP PE,nn", 3⟩,
  ⟨.fdEC_CALL_PE_nn, "CALL PE,nn", 3⟩, ⟨.fdEF_RST_28H, "RST 28H", 1⟩, ⟨.fdF0_RET_P, "RET P", 1⟩,
  ⟨.fdF2_JP_P_nn, "JP P,nn", 3⟩, ⟨.fdF4_CALL_P_nn, "CALL P,nn", 3⟩, ⟨.fdF7_RST_30H, "RST 30H", 1⟩,
  ⟨.fdF8_RET_M, "RET M", 1⟩, ⟨.fdFA_JP_M_nn, "JP M,nn", 3⟩, ⟨.fdFC_CALL_M_nn, "CALL M,nn", 3⟩,
  ⟨.fdFF_RST_38H, "RST 38H", 1⟩]

/-- Control transfers after a prefix byte. -/
def controlPrefixed : List LineRow := controlEd ++ (controlDd ++ controlFd)

/-- System instructions of the primary table. -/
def systemPrimary : List LineRow := [
  ⟨.p76_HALT, "HALT", 1⟩, ⟨.pD3_OUT_mn_A, "OUT (n),A", 2⟩, ⟨.pDB_IN_A_mn, "IN A,(n)", 2⟩, ⟨.pF3_DI, "DI", 1⟩,
  ⟨.pFB_EI, "EI", 1⟩]

/-- System instructions of the ED table. -/
def systemEd : List LineRow := [
  ⟨.ed40_IN_B_mC, "IN B,(C)", 1⟩, ⟨.ed41_OUT_mC_B, "OUT (C),B", 1⟩, ⟨.ed45_RETN, "RETN", 1⟩,
  ⟨.ed46_IM_0, "IM 0", 1⟩, ⟨.ed47_LD_I_A, "LD I,A", 1⟩, ⟨.ed48_IN_C_mC, "IN C,(C)", 1⟩,
  ⟨.ed49_OUT_mC_C, "OUT (C),C", 1⟩, ⟨.ed4D_RETI, "RETI", 1⟩, ⟨.ed4E_IM_0, "IM 0", 1⟩, ⟨.ed4F_LD_R_A, "LD R,A", 1⟩,
  ⟨.ed50_IN_D_mC, "IN D,(C)", 1⟩, ⟨.ed51_OUT_mC_D, "OUT (C),D", 1⟩, ⟨.ed55_RETN, "RETN", 1⟩,
  ⟨.ed56_IM_1, "IM 1", 1⟩, ⟨.ed57_LD_A_I, "LD A,I", 1⟩, ⟨.ed58_IN_E_mC, "IN E,(C)", 1⟩,
  ⟨.ed59_OUT_mC_E, "OUT (C),E", 1⟩, ⟨.ed5D_RETN, "RETN", 1⟩, ⟨.ed5E_IM_2, "IM 2", 1⟩, ⟨.ed5F_LD_A_R, "LD A,R", 1⟩,
  ⟨.ed60_IN_H_mC, "IN H,(C)", 1⟩, ⟨.ed61_OUT_mC_H, "OUT (C),H", 1⟩, ⟨.ed65_RETN, "RETN", 1⟩,
  ⟨.ed66_IM_0, "IM 0", 1⟩, ⟨.ed68_IN_L_mC, "IN L,(C)", 1⟩, ⟨.ed69_OUT_mC_L, "OUT (C),L", 1⟩,
  ⟨.ed6D_RETN, "RETN", 1⟩, ⟨.ed6E_IM_0, "IM 0", 1⟩, ⟨.ed70_IN_mC, "IN (C)", 1⟩, ⟨.ed71_OUT_mC_0, "OUT (C),0", 1⟩,
  ⟨.ed75_RETN, "RETN", 1⟩, ⟨.ed76_IM_1, "IM 1", 1⟩, ⟨.ed78_IN_A_mC, "IN A,(C)", 1⟩,
  ⟨.ed79_OUT_mC_A, "OUT (C),A", 1⟩, ⟨.ed7D_RETN, "RETN", 1⟩, ⟨.ed7E_IM_2, "IM 2", 1⟩, ⟨.edA2_INI, "INI", 1⟩,
  ⟨.edA3_OUTI, "OUTI", 1⟩, ⟨.edAA_IND, "IND", 1⟩, ⟨.edAB_OUTD, "OUTD", 1⟩, ⟨.edB2_INIR, "INIR", 1⟩,
  ⟨.edB3_OTIR, "OTIR", 1⟩, ⟨.edBA_INDR, "INDR", 1⟩, ⟨.edBB_OTDR, "OTDR", 1⟩]

/-- System instructions of the DD table. -/
def systemDd : List LineRow := [
  ⟨.dd76_HALT, "HALT", 1⟩, ⟨.ddD3_OUT_mn_A, "OUT (n),A", 2⟩, ⟨.ddDB_IN_A_mn, "IN A,(n)", 2⟩, ⟨.ddF3_DI, "DI", 1⟩,
  ⟨.ddFB_EI, "EI", 1⟩]

/-- System instructions of the FD table. -/
def systemFd : List LineRow := [
  ⟨.fd76_HALT, "HALT", 1⟩, ⟨.fdD3_OUT_mn_A, "OUT (n),A", 2⟩, ⟨.fdDB_IN_A_mn, "IN A,(n)", 2⟩, ⟨.fdF3_DI, "DI", 1⟩,
  ⟨.fdFB_EI, "EI", 1⟩]

/-- System instructions after a prefix byte. -/
def systemPrefixed : List LineRow := systemEd ++ (systemDd ++ systemFd)

end Sys2Proof.Machine
end

