-- ==== Sys2Proof/Safety.lean ====
section
/-! DEFINITION. What counts as a sound state and a sound step of the block, in the terms the statements use. -/

namespace Sys2Proof.Machine

/-- The table set a state decodes with (00_scope.md R9). -/
def State.tableSet (s : State) : TableSet :=
  match s.tables with
  | .standard => defaultTables s.placeholder
  | .replacement T => T

/-- A descriptor is the instruction entry `Plain(m, L)`, with or without the `Placeholder` label (00_scope.md R12). -/
def IsLine (d : Option Descriptor) (m : String) (L : Nat) : Prop :=
  d = some (.plain m L) ∨ d = some (.placeholder m L)

/-- The state after one line of `n` bytes: the line with the address of its first byte is appended, both cursor
registers move by `n`, and nothing else changes (40_decoder.md R142, R143). -/
def State.afterLine (s : State) (n : Nat) (m : String) (o : Operand) : State :=
  { s with off := s.off + n, addr := s.addr + BitVec.ofNat 16 n, out := s.out ++ [⟨s.addr, m, o⟩] }

/-- A running decoder with an accepted table set: a state the step of 40_decoder.md R130 is defined on. -/
def Ready (s : State) : Prop := s.run = .running ∧ s.tablesOk = true

/-- The invariant of a run: the cursor stays in the stream (40_decoder.md R149), the address is the offset
modulo 2^16 (10_state.md R25), and there are at most as many lines as bytes consumed (40_decoder.md R147). -/
def Inv (s : State) : Prop :=
  s.off ≤ s.size ∧ s.addr = BitVec.ofNat 16 s.off ∧ s.out.length ≤ s.off

/-- Whether the default tables hold the placeholder at an entry (30_encoding.md R95; 92_eei_decisions.md D6, D7): the ED
selectors with no Z80 instruction, and DD, ED and FD after an index prefix. -/
def placeholderAt (t : TableId) (b : Byte) : Bool :=
  match t with
  | .ed => b < 0x40 || (0x80 ≤ b && b < 0xA0) || 0xC0 ≤ b || b == 0x77 || b == 0x7F ||
      (0xA0 ≤ b && b < 0xC0 && b &&& 0x04 == 0x04)
  | .dd | .fd => b == 0xDD || b == 0xED || b == 0xFD
  | .primary | .cb | .ddcb | .fdcb => false

/-- What a line says apart from its address. -/
def DecodedLine.body (l : DecodedLine) : String × Operand := (l.mnemonic, l.operand)

end Sys2Proof.Machine
end

