-- ==== Sys2Proof/Certificates/Slice0/Obligations.lean ====
section
/-! DEFINITION. The statements about the model that are to be proved. -/

open Sys2Proof Sys2Proof.Machine

/-! Reset and the run. -/

/-- 70_reset_and_hazards.md R300: reset starts a run at offset 0, address 0, running, with no lines, and leaves the
stream and the tables; `decode(bytes)` is one reset followed by one run. -/
def Obligations.ResetStartsRunOnSameStream : Prop :=
  (∀ s : State, s.restart.off = 0 ∧ s.restart.addr = 0 ∧ s.restart.run = .running ∧ s.restart.out = [] ∧
    s.restart.stream = s.stream ∧ s.restart.tables = s.tables ∧ s.restart.placeholder = s.placeholder) ∧
  (State.reset.off = 0 ∧ State.reset.addr = 0 ∧ State.reset.run = .running ∧ State.reset.out = []) ∧
  (∀ s : State, s.tablesOk = true →
    decodeStream s.tables s.placeholder s.stream = some (runSteps (s.size + 1) s.restart).out)

/-- The invariant of a run holds at reset and at the start of every stream. -/
def Obligations.ResetSatisfiesInvariant : Prop :=
  Inv State.reset ∧ ∀ stream tables placeholder, Inv (State.start stream tables placeholder)

/-- 10_state.md R25, 40_decoder.md R149 and R147: every step keeps the cursor in the stream, the address equal to the
offset modulo 2^16, and no more lines than bytes consumed, whatever the table set. -/
def Obligations.InvariantKeptByEveryStep : Prop :=
  ∀ s t : State, Inv s → step s = .next t → Inv t

/-- 40_decoder.md R147: a run from any state that can step ends within as many steps as bytes are left, and one. -/
def Obligations.RunEndsWithinStreamLength : Prop :=
  ∀ s : State, Ready s → ∃ r, (runSteps (s.size - s.off + 1) s).run = .stopped r

/-- 40_decoder.md R147: `decode(S)` has at most `N` lines. -/
def Obligations.RunEmitsAtMostStreamLength : Prop :=
  ∀ tables placeholder stream lines,
    decodeStream tables placeholder stream = some lines → lines.length ≤ stream.length

/-- 60_exceptions.md R201: every line emitted before a stop stays valid: the lines of a stream are the first lines of
every longer stream that begins with it. -/
def Obligations.LinesOfPrefixAreFirstLines : Prop :=
  ∀ tables placeholder stream more lines lines',
    decodeStream tables placeholder stream = some lines →
    decodeStream tables placeholder (stream ++ more) = some lines' →
    lines <+: lines'

/-- 20_memory.md R62 and R64, 10_state.md R22 and R28: over any number of steps the stream and the tables never change,
the offset never decreases, and the output is only appended to. -/
def Obligations.RunOnlyAppendsAndAdvances : Prop :=
  ∀ k (s : State),
    (runSteps k s).stream = s.stream ∧ (runSteps k s).tables = s.tables ∧
    (runSteps k s).placeholder = s.placeholder ∧ s.off ≤ (runSteps k s).off ∧ s.out <+: (runSteps k s).out

/-! The step over any table set. -/

/-- 40_decoder.md R131: at the end of the stream the step stops with `End` and emits no line; in a run only `off = N`
reaches this, and the empty stream gives no lines. -/
def Obligations.EndOfStreamStopsWithNoLine : Prop :=
  (∀ s : State, Ready s → s.off ≥ s.size → step s = .next { s with run := .stopped .endOfStream }) ∧
  (∀ s : State, Inv s → s.off ≥ s.size → s.off = s.size) ∧
  (∀ s : State, Ready s → decodeStream s.tables s.placeholder [] = some [])

/-- 40_decoder.md R134: a prefix byte that is the last byte of the stream stops the run with `TruncatedPrefix` and no
line. The second clause, that the lone bytes CB, DD, ED and FD stop so under the default tables, rests on the prefix values
of 30_encoding.md R84, which are the spec's general knowledge except for CB (notes/assumptions/14.md). -/
def Obligations.LonePrefixStopsWithNoLine : Prop :=
  (∀ (s : State) (t : TableId), Ready s → s.off < s.size → s.off + 1 ≥ s.size →
    s.tableSet.lookup .primary (s.byteAt s.off) = some (.prefixTo t) →
    step s = .next { s with run := .stopped .truncatedPrefix }) ∧
  (∀ p : Byte, p = 0xCB ∨ p = 0xDD ∨ p = 0xED ∨ p = 0xFD →
    step (State.start [p] .standard "NOP") =
      .next { State.start [p] .standard "NOP" with run := .stopped .truncatedPrefix })

/-- 40_decoder.md R137, R139 to R143: an entry `Plain(m, L)` of the primary table, or of a secondary table after its
prefix byte, emits the line of its mnemonic at the cursor address and moves both cursor registers by its total length;
the operand is absent, one byte or two bytes low byte first as `L` is 1, 2 or 3. -/
def Obligations.EntryStepEmitsLineAndAdvances : Prop :=
  (∀ (s : State) (m : String) (L : Nat), Ready s →
    IsLine (s.tableSet.lookup .primary (s.byteAt s.off)) m L → s.off + L ≤ s.size →
    1 ≤ L ∧ L ≤ 3 ∧
    ∃ o, step s = .next
        { s with off := s.off + L, addr := s.addr + BitVec.ofNat 16 L, out := s.out ++ [⟨s.addr, m, o⟩] } ∧
      (L = 1 → o = .none) ∧ (L = 2 → o = .u8 (s.byteAt (s.off + 1))) ∧
      (L = 3 → o = .u16 (word16 (s.byteAt (s.off + 1)) (s.byteAt (s.off + 2))))) ∧
  (∀ (s : State) (t : TableId) (m : String) (L : Nat), Ready s →
    s.tableSet.lookup .primary (s.byteAt s.off) = some (.prefixTo t) →
    IsLine (s.tableSet.lookup t (s.byteAt (s.off + 1))) m L → s.off + (L + 1) ≤ s.size →
    2 ≤ L + 1 ∧ L + 1 ≤ 4 ∧
    ∃ o, step s = .next
        { s with off := s.off + (L + 1), addr := s.addr + BitVec.ofNat 16 (L + 1),
                 out := s.out ++ [⟨s.addr, m, o⟩] } ∧
      (L = 1 → o = .none) ∧ (L = 2 → o = .u8 (s.byteAt (s.off + 2))) ∧
      (L = 3 → o = .u16 (word16 (s.byteAt (s.off + 2)) (s.byteAt (s.off + 3)))))

/-- 40_decoder.md R136: the displaced form emits the third-level mnemonic with the displacement and advances by 4; cut
short it stops with `TruncatedOperand`. -/
def Obligations.DisplacedStepEmitsDisplacement : Prop :=
  ∀ (s : State) (t t3 : TableId), Ready s → s.off + 1 < s.size →
    s.tableSet.lookup .primary (s.byteAt s.off) = some (.prefixTo t) →
    s.tableSet.lookup t (s.byteAt (s.off + 1)) = some (.displacedPrefixTo t3) →
    (s.off + 3 ≥ s.size → step s = .next (s.stop .truncatedOperand)) ∧
    (s.off + 3 < s.size → ∃ m, IsLine (s.tableSet.lookup t3 (s.byteAt (s.off + 3))) m 2 ∧
      step s = .next (s.afterLine 4 m (.u8 (s.byteAt (s.off + 2)))))

/-- 40_decoder.md R138: an entry whose operand bytes run past the stream stops with `TruncatedOperand`, with no line
and the cursor at its start. -/
def Obligations.CutShortEntryStopsWithNoLine : Prop :=
  (∀ (s : State) (m : String) (L : Nat), Ready s → s.off < s.size →
    IsLine (s.tableSet.lookup .primary (s.byteAt s.off)) m L → s.off + L > s.size →
    step s = .next (s.stop .truncatedOperand)) ∧
  (∀ (s : State) (t : TableId) (m : String) (L : Nat), Ready s → s.off + 1 < s.size →
    s.tableSet.lookup .primary (s.byteAt s.off) = some (.prefixTo t) →
    IsLine (s.tableSet.lookup t (s.byteAt (s.off + 1))) m L → s.off + (L + 1) > s.size →
    step s = .next (s.stop .truncatedOperand))

/-- 60_exceptions.md R205: a stop is precise: the state is the state before the step with only `run` changed. -/
def Obligations.StopChangesOnlyRunState : Prop :=
  ∀ s t : State, step s = .next t → t.run ≠ .running → ∃ r, t = { s with run := .stopped r }

/-- 40_decoder.md R146 and 60_exceptions.md R206: a stopped run has no step; a reset leaves it. That the model answers
a refusal is its choice, notes/assumptions/4.md. -/
def Obligations.StoppedRunHasNoStep : Prop :=
  ∀ (s : State) (r : StopReason), s.run = .stopped r →
    (∀ t, step s ≠ .next t) ∧ (s.tablesOk = true → step s = .refused .runStopped) ∧
    (∀ k, runSteps k s = s) ∧ s.restart.run = .running

/-- 30_encoding.md R97: a table set that fails one of the seven checks is refused before any run and has no step; the
model's answer at every step is its choice, notes/assumptions/5.md. -/
def Obligations.IllFormedTablesRefused : Prop :=
  ∀ (T : TableSet) (c : WfCheck), T.passes c = false →
    (∀ stream placeholder, boot stream (.replacement T) placeholder = .refused .illFormedTables) ∧
    (∀ s : State, step { s with tables := .replacement T } = .refused .illFormedTables)

/-- 30_encoding.md R97: the default table set passes all seven checks, for every placeholder text that is a mnemonic. -/
def Obligations.DefaultTablesPassAllChecks : Prop :=
  ∀ ph : String, mnemonicText ph = true → ∀ c : WfCheck, (defaultTables ph).passes c = true

/-- 60_exceptions.md R200: with an accepted table set every step of a running decoder answers a next state, for every
stream; no fault and no refusal. -/
def Obligations.RunningStepAnswersNextState : Prop :=
  ∀ s : State, Ready s → ∃ t, step s = .next t

/-- 10_state.md R33: the cursor address and the lines emitted so far take no part in a decode decision: two states that
differ only in them step to the same offset and run state and append lines with the same text and operand. -/
def Obligations.DecodeIgnoresAddressAndLines : Prop :=
  ∀ s₁ s₂ t₁ : State, s₁.stream = s₂.stream → s₁.tables = s₂.tables → s₁.placeholder = s₂.placeholder →
    s₁.off = s₂.off → s₁.run = s₂.run → step s₁ = .next t₁ →
    ∃ t₂ ls₁ ls₂, step s₂ = .next t₂ ∧ t₁.off = t₂.off ∧ t₁.run = t₂.run ∧
      t₁.out = s₁.out ++ ls₁ ∧ t₂.out = s₂.out ++ ls₂ ∧
      ls₁.map DecodedLine.body = ls₂.map DecodedLine.body

/-- 20_memory.md R55: a step depends on at most the four stream bytes at the cursor. -/
def Obligations.StepReadsAtMostFourBytes : Prop :=
  ∀ (s t : State) (stream' : List Byte),
    (s.stream.drop s.off).take 4 = (stream'.drop s.off).take 4 → step s = .next t →
    step { s with stream := stream' } = .next { t with stream := stream' }

/-! The instructions of the default tables. -/

/-- 40_decoder.md R130: on the default tables the step of the instruction-by-instruction model is the generic table step
over the table data of files 41-47. -/
def Obligations.StandardStepIsTableStep : Prop :=
  ∀ s : State, Ready s → s.tables = .standard → step s = Engine.step (defaultTables s.placeholder) s

/-- A step runs the decoded instruction: when the bytes at the cursor decode to an instruction, step is its meaning at
that state, with nothing added around it. -/
def Obligations.StepRunsDecodedInstruction : Prop :=
  ∀ (s : State) (i : Instr) (o : Operand) (rest : List Byte), Ready s → s.tables = .standard →
    decode (s.stream.drop s.off) = .instr i o rest → step s = exec i s

/-- The bytes of every well-formed instruction, with every operand its encoding admits, decode to it, whatever follows;
and they are as many as its total length (30_encoding.md R80, R81, R90). -/
def Obligations.EncodedInstructionDecodesToItself : Prop :=
  ∀ (i : Instr) (o : Operand) (rest : List Byte), i.wellFormed o = true →
    decode (encode i o ++ rest) = .instr i o rest ∧ (encode i o).length = i.totalLength

/-- Bytes that decode to an instruction are its encoding followed by the rest, and the instruction is well formed. -/
def Obligations.DecodedInstructionEncodesToItsBytes : Prop :=
  ∀ (bytes : List Byte) (i : Instr) (o : Operand) (rest : List Byte),
    decode bytes = .instr i o rest → i.wellFormed o = true ∧ bytes = encode i o ++ rest

/-- 30_encoding.md R95 and R96: no byte sequence is illegal: decoding never meets an absent entry, and only the empty
sequence is the end of the stream. -/
def Obligations.NoByteSequenceIsIllegal : Prop :=
  ∀ bytes : List Byte, decode bytes ≠ .noEntry ∧ (decode bytes = .endOfStream ↔ bytes = [])

/-- 40_decoder.md R134, R136, R138: an instruction that the stream cuts short stops the run with the reason the decoder
gives, changing nothing else; with more bytes it is a whole instruction. -/
def Obligations.TruncatedInstructionStops : Prop :=
  ∀ (s : State) (i : Instr) (r : StopReason),
    decode (s.stream.drop s.off) = .truncated i r →
    exec i s = .next { s with run := .stopped r } ∧
    ∃ more j o, decode (s.stream.drop s.off ++ more) = .instr j o []

/-- 40_decoder.md R142 and R156: when the bytes at the cursor decode to an instruction, its meaning emits the line of its
table entry's mnemonic with the operand decoded, and advances by the number of its bytes. -/
def Obligations.DecodedInstructionEmitsItsLine : Prop :=
  ∀ (s : State) (i : Instr) (o : Operand) (rest : List Byte),
    decode (s.stream.drop s.off) = .instr i o rest →
    ∃ m, IsLine ((defaultTables s.placeholder).lookup i.entry.table i.entry.index) m i.entry.form.length ∧
      exec i s = .next (s.afterLine (encode i o).length m o)

/-- Files 41: every primary instruction whose bytes are in the stream completes: line of its entry, operand after the
opcode byte, advance by its length. -/
def Obligations.PrimaryInstructionsComplete : Prop :=
  ∀ (i : Instr) (s : State), i.entry.table = .primary → i.isMarker = false →
    s.off + i.entry.form.length ≤ s.size →
    ∃ m, (defaultTables s.placeholder).lookup .primary i.entry.index = some (.plain m i.entry.form.length) ∧
      exec i s = .next (s.afterLine i.entry.form.length m (s.operandAt (s.off + 1) i.entry.form.length))

/-- Files 42: every CB instruction whose two bytes are in the stream completes, with no operand. -/
def Obligations.CbInstructionsComplete : Prop :=
  ∀ (i : Instr) (s : State), i.entry.table = .cb → s.off + 2 ≤ s.size →
    ∃ m, (defaultTables s.placeholder).lookup .cb i.entry.index = some (.plain m 1) ∧
      exec i s = .next (s.afterLine 2 m .none)

/-- Files 43: every ED instruction whose bytes are in the stream completes, the placeholder entries among them. -/
def Obligations.EdInstructionsComplete : Prop :=
  ∀ (i : Instr) (s : State), i.entry.table = .ed → s.off + (i.entry.form.length + 1) ≤ s.size →
    ∃ m, IsLine ((defaultTables s.placeholder).lookup .ed i.entry.index) m i.entry.form.length ∧
      exec i s = .next
        (s.afterLine (i.entry.form.length + 1) m (s.operandAt (s.off + 2) i.entry.form.length))

/-- Files 44 and 45: every DD and FD instruction whose bytes are in the stream completes. -/
def Obligations.IndexInstructionsComplete : Prop :=
  ∀ (i : Instr) (s : State), i.entry.table = .dd ∨ i.entry.table = .fd → i.isMarker = false →
    s.off + (i.entry.form.length + 1) ≤ s.size →
    ∃ m, IsLine ((defaultTables s.placeholder).lookup i.entry.table i.entry.index) m i.entry.form.length ∧
      exec i s = .next
        (s.afterLine (i.entry.form.length + 1) m (s.operandAt (s.off + 2) i.entry.form.length))

/-- Files 46 and 47: every displaced instruction whose four bytes are in the stream completes; its operand is the
displacement byte. -/
def Obligations.DisplacedInstructionsComplete : Prop :=
  ∀ (i : Instr) (s : State), i.entry.table = .ddcb ∨ i.entry.table = .fdcb → s.off + 4 ≤ s.size →
    ∃ m, (defaultTables s.placeholder).lookup i.entry.table i.entry.index = some (.plain m 2) ∧
      exec i s = .next (s.afterLine 4 m (.u8 (s.byteAt (s.off + 2))))

/-- R1203, R1221, R1237, R1253, R4203, R5203: the six dispatch rows complete through the entry the next bytes select. -/
def Obligations.DispatchRowsComplete : Prop :=
  (∀ (i : Instr) (t : TableId) (s : State) (m : String) (L : Nat), i.markerTable = some t →
    IsLine ((defaultTables s.placeholder).lookup t (s.byteAt (s.off + 1))) m L → s.off + (L + 1) ≤ s.size →
    s.off + 1 < s.size → exec i s = .next (s.afterLine (L + 1) m (s.operandAt (s.off + 2) L))) ∧
  (∀ (i : Instr) (t t3 : TableId) (s : State), i.markerTable = some t →
    (defaultTables s.placeholder).lookup t (s.byteAt (s.off + 1)) = some (.displacedPrefixTo t3) →
    s.off + 4 ≤ s.size →
    ∃ m, (defaultTables s.placeholder).lookup t3 (s.byteAt (s.off + 3)) = some (.plain m 2) ∧
      exec i s = .next (s.afterLine 4 m (.u8 (s.byteAt (s.off + 2))))) ∧
  (∀ (i : Instr) (t3 : TableId) (s : State), i.displacedTable = some t3 → s.off + 4 ≤ s.size →
    ∃ m, (defaultTables s.placeholder).lookup t3 (s.byteAt (s.off + 3)) = some (.plain m 2) ∧
      exec i s = .next (s.afterLine 4 m (.u8 (s.byteAt (s.off + 2)))))

/-- 30_encoding.md R94, R95 and 40_decoder.md R157: every placeholder entry is the placeholder line, two bytes long: the ED
selectors with no Z80 instruction (00-3F, 77, 7F, 80-9F, A4-A7, AC-AF, B4-B7, BC-BF, C0-FF), and DD or FD followed by DD, ED
or FD. No other entry of the default tables is a placeholder. -/
def Obligations.PlaceholderInstructionsComplete : Prop :=
  (∀ (i : Instr) (s : State), placeholderAt i.entry.table i.entry.index = true → s.off + 2 ≤ s.size →
    exec i s = .next (s.afterLine 2 s.placeholder .none)) ∧
  (∀ (ph : String) (t : TableId) (b : Byte),
    (∃ m L, (defaultTables ph).lookup t b = some (.placeholder m L)) ↔ placeholderAt t b = true)

/-- The model's choice, notes/assumptions/9.md: an instruction's own meaning checks its bytes, in the order of
60_exceptions.md R203, and stops with the first reason that applies, changing nothing else, also where nothing was fetched
or the byte at the cursor is not its row's. The six dispatch rows are left out here; TruncatedInstructionStops has them. -/
def Obligations.InstructionsCutShortStop : Prop :=
  ∀ (i : Instr) (s : State), i.isMarker = false →
    (s.off ≥ s.size → exec i s = .next (s.stop .endOfStream)) ∧
    (s.off < s.size → i.entry.table ≠ .primary → s.off + 1 ≥ s.size →
      exec i s = .next (s.stop .truncatedPrefix)) ∧
    (s.off < s.size → (i.entry.table = .primary ∨ s.off + 1 < s.size) → s.off + i.totalLength > s.size →
      exec i s = .next (s.stop .truncatedOperand))

/-- The frame of every instruction: when its meaning answers a next state, the stream (every byte of memory), the tables
and the placeholder are as before, and either only the run state changed, to a stop, or exactly one line was appended,
at the old cursor address, and both cursor registers moved by the same 1 to 4 bytes. -/
def Obligations.FrameOfEveryInstruction : Prop :=
  ∀ (i : Instr) (s t : State), exec i s = .next t →
    (∀ a, t.read? a = s.read? a) ∧ t.stream = s.stream ∧ t.tables = s.tables ∧ t.placeholder = s.placeholder ∧
    ((∃ r, t.run = .stopped r ∧ t.off = s.off ∧ t.addr = s.addr ∧ t.out = s.out) ∨
     (t.run = s.run ∧ ∃ n m o, 1 ≤ n ∧ n ≤ 4 ∧ t.off = s.off + n ∧ t.addr = s.addr + BitVec.ofNat 16 n ∧
       t.out = s.out ++ [⟨s.addr, m, o⟩]))

/-- 40_decoder.md R150: every decoded jump, call, return, `RST` and `DJNZ`, of every table and condition, emits its line and
moves the cursor by its total length like any other instruction; no target is computed and nothing else changes. The last
clause says that no such row of the default tables is left out. The rows are the spec's general knowledge
(notes/assumptions/14.md). -/
def Obligations.ControlTransferOnlyAdvances : Prop :=
  (∀ r ∈ controlPrimary, ∀ s : State, s.off + r.length ≤ s.size →
    exec r.instr s =
      .next (s.afterLine r.length r.mnemonic (s.operandAt (s.off + 1) r.length))) ∧
  (∀ r ∈ controlPrefixed, ∀ s : State, s.off + (r.length + 1) ≤ s.size →
    exec r.instr s =
      .next (s.afterLine (r.length + 1) r.mnemonic (s.operandAt (s.off + 2) r.length))) ∧
  (∀ (ph : String) (i : Instr) (m : String) (L : Nat),
    (defaultTables ph).lookup i.entry.table i.entry.index = some (.plain m L) → isControlTransfer m = true →
    ⟨i, m, L⟩ ∈ controlPrimary ++ controlPrefixed)

/-- 40_decoder.md R151: every decoded system or privileged instruction, `HALT`, `DI`, `EI`, `IM`, `RETN`, `RETI`, input,
output and the loads of and from `I` and `R`, of every table, becomes a line like any other; the run does not halt. The last
clause says that no such row of the default tables is left out. The rows are the spec's general knowledge
(notes/assumptions/14.md). -/
def Obligations.SystemInstructionsAreLines : Prop :=
  (∀ r ∈ systemPrimary, ∀ s : State, s.off + r.length ≤ s.size →
    exec r.instr s =
      .next (s.afterLine r.length r.mnemonic (s.operandAt (s.off + 1) r.length))) ∧
  (∀ r ∈ systemPrefixed, ∀ s : State, s.off + (r.length + 1) ≤ s.size →
    exec r.instr s =
      .next (s.afterLine (r.length + 1) r.mnemonic (s.operandAt (s.off + 2) r.length))) ∧
  (∀ (ph : String) (i : Instr) (m : String) (L : Nat),
    (defaultTables ph).lookup i.entry.table i.entry.index = some (.plain m L) → isSystemInstruction m = true →
    ⟨i, m, L⟩ ∈ systemPrimary ++ systemPrefixed)

/-- The entries the source itself gives, R1000, R1001, R1006 and R2000, and one entry of each other table: R3067, R4054,
R5052, R6070, R7254. -/
def Obligations.WrittenOutEntriesComplete : Prop :=
  ∀ s : State,
    (s.off + 1 ≤ s.size → exec .p00_NOP s = .next (s.afterLine 1 "NOP" .none)) ∧
    (s.off + 2 ≤ s.size →
      exec .p06_LD_B_n s = .next (s.afterLine 2 "LD B,n" (.u8 (s.byteAt (s.off + 1)))) ∧
      exec .cb00_RLC_B s = .next (s.afterLine 2 "RLC B" .none)) ∧
    (s.off + 3 ≤ s.size →
      exec .p01_LD_BC_nn s =
        .next (s.afterLine 3 "LD BC,nn" (.u16 (word16 (s.byteAt (s.off + 1)) (s.byteAt (s.off + 2))))) ∧
      exec .fd34_INC_mIYd s = .next (s.afterLine 3 "INC (IY+d)" (.u8 (s.byteAt (s.off + 2))))) ∧
    (s.off + 4 ≤ s.size →
      exec .ed43_LD_mnn_BC s =
        .next (s.afterLine 4 "LD (nn),BC" (.u16 (word16 (s.byteAt (s.off + 2)) (s.byteAt (s.off + 3))))) ∧
      exec .dd36_LD_mIXd_n s =
        .next (s.afterLine 4 "LD (IX+d),n" (.u16 (word16 (s.byteAt (s.off + 2)) (s.byteAt (s.off + 3))))) ∧
      exec .ddcb46_BIT_0_mIXd s = .next (s.afterLine 4 "BIT 0,(IX+d)" (.u8 (s.byteAt (s.off + 2)))) ∧
      exec .fdcbFE_SET_7_mIYd s = .next (s.afterLine 4 "SET 7,(IY+d)" (.u8 (s.byteAt (s.off + 2)))))

/-! Encoding. -/

/-- Words written out bit by bit from the encodings of opcode_table.json decode to their instructions. -/
def Obligations.SpecWordsDecode : Prop :=
  decode [0b00000001, 0x34, 0x12] = .instr .p01_LD_BC_nn (.u16 0x1234) [] ∧
  decode [0b11001011, 0b01111111] = .instr .cb7F_BIT_7_A .none [] ∧
  decode [0b11101101, 0b01000011, 0x34, 0x12] = .instr .ed43_LD_mnn_BC (.u16 0x1234) [] ∧
  decode [0b11011101, 0b00110100, 0x05] = .instr .dd34_INC_mIXd (.u8 0x05) [] ∧
  decode [0b11111101, 0b11100101] = .instr .fdE5_PUSH_IY .none [] ∧
  decode [0b11011101, 0b11001011, 0x05, 0b01000110] = .instr .ddcb46_BIT_0_mIXd (.u8 0x05) [] ∧
  decode [0b11111101, 0b11001011, 0x05, 0b11111110] = .instr .fdcbFE_SET_7_mIYd (.u8 0x05) []

/-- 30_encoding.md R99: every byte after an instruction start is an operand, selector or displacement byte, whatever its
value, a prefix value included. After an opcode byte that is no prefix all operand bytes are data; after a prefix byte every
selector is one, but for the displaced marker, and so are the operand bytes after it; in the displaced form both the
displacement and the third-level byte are. `01 CB 00` is the rule's example. -/
def Obligations.PrefixValueInsideInstructionIsData : Prop :=
  (∀ (op : Byte), prefixTable op = none →
    ∃ i : Instr, i.entry.table = .primary ∧ i.entry.index = op ∧
      ∀ (o : Operand) (rest : List Byte), o.fits i.entry.form = true →
        decode (op :: (operandBytes o ++ rest)) = .instr i o rest) ∧
  (∀ (p sel : Byte) (t : TableId), prefixTable p = some t → ¬ (sel = 0xCB ∧ (t = .dd ∨ t = .fd)) →
    ∃ i : Instr, i.entry.table = t ∧ i.entry.index = sel ∧
      ∀ (o : Operand) (rest : List Byte), o.fits i.entry.form = true →
        decode (p :: sel :: (operandBytes o ++ rest)) = .instr i o rest) ∧
  (∀ (p d x : Byte) (t3 : TableId), (p = 0xDD ∧ t3 = .ddcb) ∨ (p = 0xFD ∧ t3 = .fdcb) →
    ∃ i : Instr, i.entry.table = t3 ∧ i.entry.index = x ∧
      ∀ rest : List Byte, decode (p :: 0xCB :: d :: x :: rest) = .instr i (.u8 d) rest) ∧
  decode [0x01, 0xCB, 0x00] = .instr .p01_LD_BC_nn (.u16 0x00CB) []

/-- 70_reset_and_hazards.md R308: an index prefix before DD, ED or FD is one two-byte placeholder instruction, and
decoding goes on after it. -/
def Obligations.PrefixAfterIndexPrefixIsPlaceholder : Prop :=
  ∀ rest : List Byte,
    decode (0xDD :: 0xDD :: rest) = .instr .ddDD_PLACEHOLDER .none rest ∧
    decode (0xDD :: 0xED :: rest) = .instr .ddED_PLACEHOLDER .none rest ∧
    decode (0xDD :: 0xFD :: rest) = .instr .ddFD_PLACEHOLDER .none rest ∧
    decode (0xFD :: 0xDD :: rest) = .instr .fdDD_PLACEHOLDER .none rest ∧
    decode (0xFD :: 0xED :: rest) = .instr .fdED_PLACEHOLDER .none rest ∧
    decode (0xFD :: 0xFD :: rest) = .instr .fdFD_PLACEHOLDER .none rest

/-- The model's choice, notes/assumptions/3.md, 7.md and 8.md: how a word of the opcode table is numbered, what a dispatch
row's word decodes to, and that `withFetchWord` places it at the cursor. The next step then runs the instruction the word
decodes to, from every state. -/
def Obligations.PlacedTableWordRunsNext : Prop :=
  ∀ (s : State) (nbits w : Nat) (i : Instr), decodeTableWord nbits w = some i →
    step (s.withFetchWord nbits w) = exec i (s.withFetchWord nbits w)

/-- 20_memory.md R52: a 16-bit operand is assembled low byte first; the bytes 34 12 give 1234. -/
def Obligations.WordOperandIsLittleEndian : Prop :=
  (∀ lo hi : Byte, (word16 lo hi).toNat = lo.toNat + 256 * hi.toNat) ∧
  (∀ (s : State) (j : Nat), s.operandAt j 3 = .u16 (word16 (s.byteAt j) (s.byteAt (j + 1)))) ∧
  word16 0x34 0x12 = 0x1234

/-! The listing. -/

/-- 40_decoder.md R144: `hex4` and `hex2` are exactly 4 and 2 digits, zero-padded, most significant first, with the
digits 0 to 9 and lowercase a to f (92_eei_decisions.md D10). -/
def Obligations.HexTextHasFixedWidthDigits : Prop :=
  (∀ w : Word, ∃ a b c d, a < 16 ∧ b < 16 ∧ c < 16 ∧ d < 16 ∧
    w.toNat = 4096 * a + 256 * b + 16 * c + d ∧
    hex4 w = String.ofList [hexDigit a, hexDigit b, hexDigit c, hexDigit d]) ∧
  (∀ w : Byte, ∃ c d, c < 16 ∧ d < 16 ∧ w.toNat = 16 * c + d ∧
    hex2 w = String.ofList [hexDigit c, hexDigit d]) ∧
  (List.range 16).map hexDigit = "0123456789abcdef".toList

/-- 40_decoder.md R144 and R155: the text of a line for each width of operand, ended by LF. -/
def Obligations.LineTextFollowsOperandWidth : Prop :=
  ∀ (a : Word) (m : String) (v : Byte) (w : Word),
    (DecodedLine.mk a m .none).text = hex4 a ++ ": " ++ m ++ "\n" ∧
    (DecodedLine.mk a m (.u8 v)).text = hex4 a ++ ": " ++ m ++ " #" ++ hex2 v ++ "\n" ∧
    (DecodedLine.mk a m (.u16 w)).text = hex4 a ++ ": " ++ m ++ " #" ++ hex4 w ++ "\n"

/-- 40_decoder.md R145: the listing is the concatenation of the texts of the lines in order; it has no blank line, and
no lines give the empty text. -/
def Obligations.ListingConcatenatesLineTexts : Prop :=
  listing [] = "" ∧
  (∀ lines : List DecodedLine, listing lines = String.join (lines.map DecodedLine.text)) ∧
  (∀ before after : List DecodedLine, listing (before ++ after) = listing before ++ listing after) ∧
  (∀ l : DecodedLine, l.text ≠ "\n" ∧ l.text ≠ "")

/-! Several decoders. -/

/-- 60_exceptions.md R211: decoders that read one shared table set do not affect each other: after any schedule of steps
each decoder is where it is after its own steps alone, and the tables are as before. Schedules are the model's way to say
"at the same time", notes/assumptions/18.md. -/
def Obligations.DecodersRunAsIfAlone : Prop :=
  ∀ (g : DecoderGroup) (schedule : List Nat),
    (g.runSchedule schedule).tables = g.tables ∧ (g.runSchedule schedule).placeholder = g.placeholder ∧
    (g.runSchedule schedule).decoders.length = g.decoders.length ∧
    ∀ (k : Nat) (d : Decoder), g.decoders[k]? = some d →
      (g.runSchedule schedule).decoders[k]? = some (runSteps (schedule.count k) (g.state d)).decoder

/-- 60_exceptions.md R211 and 40_decoder.md R147: the output of each decoder of a group is the same as if it ran alone:
once a schedule gives it one step more than its stream has bytes, its lines are those of `decode` of its own stream. -/
def Obligations.GroupOutputIsDecodeOfEachStream : Prop :=
  ∀ (tables : TableChoice) (placeholder : String) (streams : List (List Byte)) (schedule : List Nat) (k : Nat)
    (stream : List Byte) (lines : List DecodedLine),
    streams[k]? = some stream → decodeStream tables placeholder stream = some lines →
    stream.length + 1 ≤ schedule.count k →
    ((DecoderGroup.start tables placeholder streams).runSchedule schedule).decoders[k]?.map Decoder.out = some lines
end

