-- ==== Sys2Proof/Laws/Decode.lean ====
section
/-! SUPPORT. The tables of instructions and the entries of instructions are inverse to each other, and the bytes of a 16-bit operand give it back. -/

namespace Sys2Proof

/-- Whether an instruction stands at index `k` of table `t`. -/
def Instr.standsAt (i : Instr) (t : TableId) (k : Nat) : Bool :=
  match i.entry with
  | ⟨t', b, _⟩ => t' == t && b.toNat == k

/-- The seven tables. -/
def allTables : List TableId := [.primary, .cb, .ed, .dd, .fd, .ddcb, .fdcb]

theorem mem_allTables (t : TableId) : t ∈ allTables := by cases t <;> decide

theorem tables_hold_entries :
    (allTables.all fun t => (List.range 256).all fun k =>
      match rowAt t (BitVec.ofNat 8 k) with
      | some i => i.standsAt t k
      | none => false) = true := by
  decide +kernel

theorem entries_stand_in_tables :
    ((List.range 1792).all fun n =>
      match (Instr.ofNat n).entry with
      | ⟨t, b, _⟩ =>
        match rowAt t b with
        | some i => i.ctorIdx == n
        | none => false) = true := by
  decide +kernel

/-- No table has an absent entry, and what stands at an index has that entry (30_encoding.md R91, R95). -/
theorem rowAt_complete (t : TableId) (b : Byte) :
    ∃ i, rowAt t b = some i ∧ i.entry.table = t ∧ i.entry.index = b := by
  have h := List.all_eq_true.mp (List.all_eq_true.mp tables_hold_entries t (mem_allTables t))
    b.toNat (List.mem_range.mpr b.isLt)
  rw [BitVec.ofNat_toNat, BitVec.setWidth_eq] at h
  split at h
  · rename_i i hi
    simp only [Instr.standsAt, Bool.and_eq_true, beq_iff_eq] at h
    exact ⟨i, hi, h.1, BitVec.eq_of_toNat_eq h.2⟩
  · cases h

/-- What stands at an index of a table has that table and index. -/
theorem entry_of_rowAt {t : TableId} {b : Byte} {i : Instr} (h : rowAt t b = some i) :
    i.entry.table = t ∧ i.entry.index = b := by
  obtain ⟨j, hj, hjt⟩ := rowAt_complete t b
  rw [h] at hj
  exact Option.some.inj hj ▸ hjt

theorem ctorIdx_lt (i : Instr) : i.ctorIdx < 1792 := by
  cases i <;> decide

/-- Every instruction stands in its table at its index. -/
theorem rowAt_entry (i : Instr) : rowAt i.entry.table i.entry.index = some i := by
  have h := List.all_eq_true.mp entries_stand_in_tables i.ctorIdx (List.mem_range.mpr (ctorIdx_lt i))
  rw [Instr.ofNat_ctorIdx] at h
  simp only at h
  split at h
  · rename_i j hj
    have : j = i := by rw [← Instr.ofNat_ctorIdx j, ← Instr.ofNat_ctorIdx i, beq_iff_eq.mp h]
    exact this ▸ hj
  · cases h

/-- An instruction is determined by its table and index. -/
theorem entry_injective {i j : Instr} (ht : i.entry.table = j.entry.table)
    (hx : i.entry.index = j.entry.index) : i = j := by
  have h := rowAt_entry i
  rw [ht, hx, rowAt_entry j] at h
  exact (Option.some.inj h).symm

/-- What holds for every row of every table holds for every instruction. -/
theorem forall_instr_of_rows {P : Instr → Prop}
    (h : ∀ t, ∀ r ∈ tableRows t, ∀ i ∈ r, P i) (i : Instr) : P i := by
  have hi := rowAt_entry i
  simp only [rowAt, Option.bind_eq_some_iff] at hi
  obtain ⟨r, hr, hir⟩ := hi
  exact h _ r (List.mem_of_getElem? hr) i (List.mem_of_getElem? hir)

/-- The two bytes of an operand give it back (20_memory.md R52). -/
@[simp] theorem word16_low_high (w : Word) : word16 (lowByte w) (highByte w) = w := by
  apply BitVec.eq_of_getLsbD_eq
  intro i hi
  simp [word16, lowByte, highByte]
  grind

@[simp] theorem lowByte_word16 (lo hi : Byte) : lowByte (word16 lo hi) = lo := by
  apply BitVec.eq_of_getLsbD_eq
  intro i hi
  simp [word16, lowByte, hi]

@[simp] theorem highByte_word16 (lo hi : Byte) : highByte (word16 lo hi) = hi := by
  apply BitVec.eq_of_getLsbD_eq
  intro i hi
  simp [word16, highByte]
  grind

end Sys2Proof
end

