-- ==== Sys2Proof/Laws/Decoders.lean ====
section
/-! SUPPORT. The small lemmas of a group of decoders, and what a step of one decoder can do to the group. -/

namespace Sys2Proof.Machine

variable (g : DecoderGroup) (d : Decoder) (s : State)

@[simp] theorem DecoderGroup.state_stream : (g.state d).stream = d.stream := rfl
@[simp] theorem DecoderGroup.state_tables : (g.state d).tables = g.tables := rfl
@[simp] theorem DecoderGroup.state_placeholder : (g.state d).placeholder = g.placeholder := rfl
@[simp] theorem DecoderGroup.state_off : (g.state d).off = d.off := rfl
@[simp] theorem DecoderGroup.state_addr : (g.state d).addr = d.addr := rfl
@[simp] theorem DecoderGroup.state_run : (g.state d).run = d.run := rfl
@[simp] theorem DecoderGroup.state_out : (g.state d).out = d.out := rfl

@[simp] theorem State.decoder_stream : s.decoder.stream = s.stream := rfl
@[simp] theorem State.decoder_off : s.decoder.off = s.off := rfl
@[simp] theorem State.decoder_addr : s.decoder.addr = s.addr := rfl
@[simp] theorem State.decoder_run : s.decoder.run = s.run := rfl
@[simp] theorem State.decoder_out : s.decoder.out = s.out := rfl

@[simp] theorem DecoderGroup.decoder_state : (g.state d).decoder = d := rfl

/-- A state that has the group's tables is the state of its own decoder. -/
theorem DecoderGroup.state_decoder {g : DecoderGroup} {s : State} (ht : s.tables = g.tables)
    (hp : s.placeholder = g.placeholder) : g.state s.decoder = s := by
  cases s; cases g; simp_all [DecoderGroup.state, State.decoder]

/-- A decoder whose step answers a next state takes it. -/
theorem DecoderGroup.stepAt_of_next {g : DecoderGroup} {k : Nat} {d : Decoder} {t : State}
    (hd : g.decoders[k]? = some d) (hs : step (g.state d) = .next t) :
    g.stepAt k = { g with decoders := g.decoders.set k t.decoder } := by
  simp only [DecoderGroup.stepAt, hd, hs]

/-- A decoder that has no step, a stopped one for instance, leaves the group as it is. -/
theorem DecoderGroup.stepAt_of_no_step {g : DecoderGroup} {k : Nat} {d : Decoder}
    (hd : g.decoders[k]? = some d) (hs : ∀ t, step (g.state d) ≠ .next t) : g.stepAt k = g := by
  simp only [DecoderGroup.stepAt, hd]
  cases h : step (g.state d) with
  | next t => exact absurd h (hs t)
  | fault f => rfl
  | refused r => rfl

/-- Everything a step of decoder `k` can do: nothing, or replace decoder `k` by what its own step gives. -/
theorem DecoderGroup.stepAt_cases (g : DecoderGroup) (k : Nat) :
    g.stepAt k = g ∨
    ∃ d t, g.decoders[k]? = some d ∧ step (g.state d) = .next t ∧
      g.stepAt k = { g with decoders := g.decoders.set k t.decoder } := by
  cases hd : g.decoders[k]? with
  | none => exact .inl (by simp only [DecoderGroup.stepAt, hd])
  | some d =>
    by_cases hs : ∃ t, step (g.state d) = .next t
    · obtain ⟨t, hs⟩ := hs
      exact .inr ⟨d, t, rfl, hs, stepAt_of_next hd hs⟩
    · exact .inl (stepAt_of_no_step hd fun t h => hs ⟨t, h⟩)

@[simp] theorem DecoderGroup.stepAt_tables (k : Nat) : (g.stepAt k).tables = g.tables := by
  obtain h | ⟨_, _, _, _, h⟩ := g.stepAt_cases k <;> rw [h]

@[simp] theorem DecoderGroup.stepAt_placeholder (k : Nat) : (g.stepAt k).placeholder = g.placeholder := by
  obtain h | ⟨_, _, _, _, h⟩ := g.stepAt_cases k <;> rw [h]

@[simp] theorem DecoderGroup.stepAt_length (k : Nat) : (g.stepAt k).decoders.length = g.decoders.length := by
  obtain h | ⟨_, _, _, _, h⟩ := g.stepAt_cases k <;> simp [h]

/-- A step of one decoder leaves every other decoder as it is. -/
theorem DecoderGroup.stepAt_other {k j : Nat} (h : k ≠ j) : (g.stepAt k).decoders[j]? = g.decoders[j]? := by
  obtain e | ⟨_, _, _, _, e⟩ := g.stepAt_cases k <;> simp [e, h]

end Sys2Proof.Machine
end

