-- ==== Sys2Proof/Laws/State.lean ====
section
/-! SUPPORT. One lemma for each field under each update of the state, so that no proof unfolds a record update. -/

namespace Sys2Proof.Machine

variable (s : State)

@[simp] theorem State.stop_stream (r : StopReason) : (s.stop r).stream = s.stream := rfl
@[simp] theorem State.stop_tables (r : StopReason) : (s.stop r).tables = s.tables := rfl
@[simp] theorem State.stop_placeholder (r : StopReason) : (s.stop r).placeholder = s.placeholder := rfl
@[simp] theorem State.stop_off (r : StopReason) : (s.stop r).off = s.off := rfl
@[simp] theorem State.stop_addr (r : StopReason) : (s.stop r).addr = s.addr := rfl
@[simp] theorem State.stop_run (r : StopReason) : (s.stop r).run = .stopped r := rfl
@[simp] theorem State.stop_out (r : StopReason) : (s.stop r).out = s.out := rfl
@[simp] theorem State.stop_size (r : StopReason) : (s.stop r).size = s.size := rfl

@[simp] theorem State.emit_stream (m : String) (o : Operand) : (s.emit m o).stream = s.stream := rfl
@[simp] theorem State.emit_tables (m : String) (o : Operand) : (s.emit m o).tables = s.tables := rfl
@[simp] theorem State.emit_placeholder (m : String) (o : Operand) : (s.emit m o).placeholder = s.placeholder := rfl
@[simp] theorem State.emit_off (m : String) (o : Operand) : (s.emit m o).off = s.off := rfl
@[simp] theorem State.emit_addr (m : String) (o : Operand) : (s.emit m o).addr = s.addr := rfl
@[simp] theorem State.emit_run (m : String) (o : Operand) : (s.emit m o).run = s.run := rfl
@[simp] theorem State.emit_out (m : String) (o : Operand) : (s.emit m o).out = s.out ++ [⟨s.addr, m, o⟩] := rfl
@[simp] theorem State.emit_size (m : String) (o : Operand) : (s.emit m o).size = s.size := rfl

@[simp] theorem State.advance_stream (n : Nat) : (s.advance n).stream = s.stream := rfl
@[simp] theorem State.advance_tables (n : Nat) : (s.advance n).tables = s.tables := rfl
@[simp] theorem State.advance_placeholder (n : Nat) : (s.advance n).placeholder = s.placeholder := rfl
@[simp] theorem State.advance_off (n : Nat) : (s.advance n).off = s.off + n := rfl
@[simp] theorem State.advance_addr (n : Nat) : (s.advance n).addr = s.addr + BitVec.ofNat 16 n := rfl
@[simp] theorem State.advance_run (n : Nat) : (s.advance n).run = s.run := rfl
@[simp] theorem State.advance_out (n : Nat) : (s.advance n).out = s.out := rfl
@[simp] theorem State.advance_size (n : Nat) : (s.advance n).size = s.size := rfl

@[simp] theorem State.restart_stream : s.restart.stream = s.stream := rfl
@[simp] theorem State.restart_tables : s.restart.tables = s.tables := rfl
@[simp] theorem State.restart_placeholder : s.restart.placeholder = s.placeholder := rfl
@[simp] theorem State.restart_off : s.restart.off = 0 := rfl
@[simp] theorem State.restart_addr : s.restart.addr = 0 := rfl
@[simp] theorem State.restart_run : s.restart.run = .running := rfl
@[simp] theorem State.restart_out : s.restart.out = [] := rfl

/-- Two states with equal fields are equal. -/
theorem State.ext_fields {s t : State} (h1 : s.stream = t.stream) (h2 : s.tables = t.tables)
    (h3 : s.placeholder = t.placeholder) (h4 : s.off = t.off) (h5 : s.addr = t.addr)
    (h6 : s.run = t.run) (h7 : s.out = t.out) : s = t := by
  cases s; cases t; simp_all

end Sys2Proof.Machine
end

