-- ==== Sys2Proof/Laws/Ops.lean ====
section
/-! SUPPORT. What each shared operation can do, said once. -/

namespace Sys2Proof.Machine

/-- No stop condition applies exactly when all the instruction's bytes are in the stream. -/
theorem State.stopCheck_eq_none {s : State} {pfx total : Nat} :
    s.stopCheck pfx total = none ↔
      s.off < s.size ∧ (pfx = 0 ∨ s.off + 1 < s.size) ∧ s.off + total ≤ s.size := by
  unfold State.stopCheck
  split
  · simp; omega
  · split
    · simp; omega
    · split
      · simp; omega
      · simp; omega

/-- With all the bytes present the line is emitted and the cursor advances. -/
theorem State.lineEffect_complete {s : State} {pfx total : Nat} {m : String} {o : Operand}
    (hp : pfx < total) (h : s.off + total ≤ s.size) :
    s.lineEffect pfx total m o = (s.emit m o).advance total := by
  have : s.stopCheck pfx total = none := State.stopCheck_eq_none.mpr ⟨by omega, by omega, h⟩
  simp [State.lineEffect, this]

/-- Everything the effect of an instruction can be. -/
theorem State.lineEffect_cases (s : State) (pfx total : Nat) (m : String) (o : Operand) :
    (∃ r, s.stopCheck pfx total = some r ∧ s.lineEffect pfx total m o = s.stop r) ∨
    (s.off + total ≤ s.size ∧ s.lineEffect pfx total m o = (s.emit m o).advance total) := by
  unfold State.lineEffect
  cases h : s.stopCheck pfx total with
  | some r => exact .inl ⟨r, rfl, rfl⟩
  | none => exact .inr ⟨(State.stopCheck_eq_none.mp h).2.2, rfl⟩

end Sys2Proof.Machine
end

