-- ==== Sys2Proof/Laws/Engine.lean ====
section
/-! SUPPORT. What a well-formed table set holds at an index, and everything a step over it can do. -/

namespace Sys2Proof.Machine

variable {T : TableSet}

/-- Every table of a well-formed set is total (20_memory.md R58). -/
theorem wellFormed_lookup (h : T.wellFormed = true) (t : TableId) (b : Byte) :
    ∃ d, T.lookup t b = some d ∧ d ∈ T.table t := by
  have hc : T.passes .complete = true := List.all_eq_true.mp h _ (by simp)
  have hl : (T.table t).length = 256 := by
    simp only [TableSet.passes, List.all_cons, List.all_nil, Bool.and_true, Bool.and_eq_true, beq_iff_eq] at hc
    cases t <;> simp [TableSet.table, hc]
  have hb : b.toNat < (T.table t).length := by rw [hl]; exact b.isLt
  exact ⟨_, List.getElem?_eq_getElem hb, List.getElem_mem hb⟩

/-- The primary entries of a well-formed set have their form (30_encoding.md R97 WF2). -/
theorem primaryForm_of_lookup (h : T.wellFormed = true) {b : Byte} {d : Descriptor}
    (hl : T.lookup .primary b = some d) : d.primaryForm = true := by
  have hp : T.passes .primaryForms = true := List.all_eq_true.mp h _ (by simp)
  exact List.all_eq_true.mp hp d (List.mem_of_getElem? hl)

/-- The secondary entries of a well-formed set have their form (30_encoding.md R97 WF4). -/
theorem secondaryForm_of_lookup (h : T.wellFormed = true) {t : TableId} (ht : t.isSecondary = true) {b : Byte}
    {d : Descriptor} (hl : T.lookup t b = some d) : d.secondaryForm = true := by
  have hp : T.passes .secondaryForms = true := List.all_eq_true.mp h _ (by simp)
  refine List.all_eq_true.mp hp d ?_
  have hm := List.mem_of_getElem? hl
  cases t <;> simp_all [TableId.isSecondary, TableSet.table, TableSet.secondaryEntries]

/-- The third-level entries of a well-formed set have their form (30_encoding.md R97 WF6). -/
theorem thirdLevelForm_of_lookup (h : T.wellFormed = true) {t : TableId} (ht : t.isThirdLevel = true) {b : Byte}
    {d : Descriptor} (hl : T.lookup t b = some d) : d.thirdLevelForm = true := by
  have hp : T.passes .thirdLevelForms = true := List.all_eq_true.mp h _ (by simp)
  refine List.all_eq_true.mp hp d ?_
  have hm := List.mem_of_getElem? hl
  cases t <;> simp_all [TableId.isThirdLevel, TableSet.table]

/-- What a step can do to a state: stop, or emit one line of 1 to 4 bytes that lie in the stream. -/
def StopsOrEmits (s : State) (r : Outcome) : Prop :=
  (∃ why, r = .next (s.stop why)) ∨
  ∃ n m o, 1 ≤ n ∧ n ≤ 4 ∧ s.off + n ≤ s.size ∧ r = .next (s.afterLine n m o)

theorem Engine.finish_stopsOrEmits {pfx L : Nat} (hp : pfx ≤ 1) (hL : lengthInRange L = true) (m : String)
    (s : State) : StopsOrEmits s (Engine.finish pfx m L s) := by
  simp only [lengthInRange, Bool.and_eq_true, decide_eq_true_eq] at hL
  simp only [Engine.finish]
  split
  · exact .inl ⟨_, rfl⟩
  · exact .inr ⟨L + pfx, m, _, by omega, by omega, by omega, rfl⟩

theorem Engine.displaced_stopsOrEmits (h : T.wellFormed = true) {t3 : TableId} (ht : t3.isThirdLevel = true)
    (s : State) : StopsOrEmits s (Engine.displaced T t3 s) := by
  unfold Engine.displaced
  split
  · exact .inl ⟨_, rfl⟩
  · obtain ⟨d, hd, -⟩ := wellFormed_lookup h t3 (s.byteAt (s.off + 3))
    have hf := thirdLevelForm_of_lookup h ht hd
    rw [hd]
    cases d with
    | plain m L => exact .inr ⟨4, m, _, by omega, by omega, by omega, rfl⟩
    | placeholder m L => exact .inr ⟨4, m, _, by omega, by omega, by omega, rfl⟩
    | prefixTo t => cases hf
    | displacedPrefixTo t => cases hf

theorem Engine.dispatch_stopsOrEmits (h : T.wellFormed = true) {t : TableId} (ht : t.isSecondary = true)
    (s : State) : StopsOrEmits s (Engine.dispatch T t s) := by
  unfold Engine.dispatch
  split
  · exact .inl ⟨_, rfl⟩
  · obtain ⟨d, hd, -⟩ := wellFormed_lookup h t (s.byteAt (s.off + 1))
    have hf := secondaryForm_of_lookup h ht hd
    rw [hd]
    cases d with
    | plain m L => exact Engine.finish_stopsOrEmits (by omega) hf m s
    | placeholder m L => exact Engine.finish_stopsOrEmits (by omega) hf m s
    | prefixTo t => cases hf
    | displacedPrefixTo t3 => exact Engine.displaced_stopsOrEmits h hf s

/-- Everything the step of 40_decoder.md R130 can do over a well-formed table set. -/
theorem Engine.step_stopsOrEmits (h : T.wellFormed = true) (s : State) : StopsOrEmits s (Engine.step T s) := by
  unfold Engine.step
  split
  · exact .inl ⟨_, rfl⟩
  · obtain ⟨d, hd, -⟩ := wellFormed_lookup h .primary (s.byteAt s.off)
    have hf := primaryForm_of_lookup h hd
    rw [hd]
    cases d with
    | plain m L => exact Engine.finish_stopsOrEmits (by omega) hf m s
    | placeholder m L => exact Engine.finish_stopsOrEmits (by omega) hf m s
    | prefixTo t => exact Engine.dispatch_stopsOrEmits h hf s
    | displacedPrefixTo t => cases hf

end Sys2Proof.Machine
end

