-- ==== Sys2Proof/Laws/Exec.lean ====
section
/-! SUPPORT. Every instruction's meaning is the effect of its table entry: the meanings of Machine/Primary.lean to Machine/Fdcb.lean and the table data of Machine/Tables.lean say the same, entry by entry. -/

namespace Sys2Proof.Machine

/-- The meaning of an instruction is the effect of the descriptor at its entry. -/
def FollowsTable (i : Instr) : Prop :=
  ∀ s : State, exec i s =
    entryEffect (defaultTables s.placeholder) i.entry.table
      ((defaultTables s.placeholder).lookup i.entry.table i.entry.index) s

theorem primary_follows_table : ∀ r ∈ primaryRows, ∀ i ∈ r, FollowsTable i := by
  simp only [primaryRows, primaryRows0, primaryRows1, primaryRows2, primaryRows3, primaryRows4, primaryRows5, primaryRows6, primaryRows7,
    primaryRows8, primaryRows9, primaryRowsA, primaryRowsB, primaryRowsC, primaryRowsD, primaryRowsE, primaryRowsF, List.forall_mem_cons]
  and_intros
  all_goals first | exact fun s => rfl | exact List.forall_mem_nil _

theorem cb_follows_table : ∀ r ∈ cbRows, ∀ i ∈ r, FollowsTable i := by
  simp only [cbRows, cbRows0, cbRows1, cbRows2, cbRows3, cbRows4, cbRows5, cbRows6, cbRows7,
    cbRows8, cbRows9, cbRowsA, cbRowsB, cbRowsC, cbRowsD, cbRowsE, cbRowsF, List.forall_mem_cons]
  and_intros
  all_goals first | exact fun s => rfl | exact List.forall_mem_nil _

theorem ed_low_follows_table :
    ∀ r ∈ [edRows0, edRows1, edRows2, edRows3, edRows4, edRows5, edRows6, edRows7], ∀ i ∈ r,
      FollowsTable i := by
  simp only [edRows0, edRows1, edRows2, edRows3, edRows4, edRows5, edRows6, edRows7,
    List.forall_mem_cons]
  and_intros
  all_goals first | exact fun s => rfl | exact List.forall_mem_nil _

theorem ed_high_follows_table :
    ∀ r ∈ [edRows8, edRows9, edRowsA, edRowsB, edRowsC, edRowsD, edRowsE, edRowsF], ∀ i ∈ r,
      FollowsTable i := by
  simp only [edRows8, edRows9, edRowsA, edRowsB, edRowsC, edRowsD, edRowsE, edRowsF,
    List.forall_mem_cons]
  and_intros
  all_goals first | exact fun s => rfl | exact List.forall_mem_nil _

theorem ed_follows_table (r : List Instr) (hr : r ∈ edRows) : ∀ i ∈ r, FollowsTable i :=
  (List.mem_append.mp (show r ∈ [edRows0, edRows1, edRows2, edRows3, edRows4, edRows5, edRows6, edRows7] ++
      [edRows8, edRows9, edRowsA, edRowsB, edRowsC, edRowsD, edRowsE, edRowsF] from hr)).elim
    (ed_low_follows_table r) (ed_high_follows_table r)

theorem dd_low_follows_table :
    ∀ r ∈ [ddRows0, ddRows1, ddRows2, ddRows3, ddRows4, ddRows5, ddRows6, ddRows7], ∀ i ∈ r,
      FollowsTable i := by
  simp only [ddRows0, ddRows1, ddRows2, ddRows3, ddRows4, ddRows5, ddRows6, ddRows7,
    List.forall_mem_cons]
  and_intros
  all_goals first | exact fun s => rfl | exact List.forall_mem_nil _

theorem dd_high_follows_table :
    ∀ r ∈ [ddRows8, ddRows9, ddRowsA, ddRowsB, ddRowsC, ddRowsD, ddRowsE, ddRowsF], ∀ i ∈ r,
      FollowsTable i := by
  simp only [ddRows8, ddRows9, ddRowsA, ddRowsB, ddRowsC, ddRowsD, ddRowsE, ddRowsF,
    List.forall_mem_cons]
  and_intros
  all_goals first | exact fun s => rfl | exact List.forall_mem_nil _

theorem dd_follows_table (r : List Instr) (hr : r ∈ ddRows) : ∀ i ∈ r, FollowsTable i :=
  (List.mem_append.mp (show r ∈ [ddRows0, ddRows1, ddRows2, ddRows3, ddRows4, ddRows5, ddRows6, ddRows7] ++
      [ddRows8, ddRows9, ddRowsA, ddRowsB, ddRowsC, ddRowsD, ddRowsE, ddRowsF] from hr)).elim
    (dd_low_follows_table r) (dd_high_follows_table r)

theorem fd_low_follows_table :
    ∀ r ∈ [fdRows0, fdRows1, fdRows2, fdRows3, fdRows4, fdRows5, fdRows6, fdRows7], ∀ i ∈ r,
      FollowsTable i := by
  simp only [fdRows0, fdRows1, fdRows2, fdRows3, fdRows4, fdRows5, fdRows6, fdRows7,
    List.forall_mem_cons]
  and_intros
  all_goals first | exact fun s => rfl | exact List.forall_mem_nil _

theorem fd_high_follows_table :
    ∀ r ∈ [fdRows8, fdRows9, fdRowsA, fdRowsB, fdRowsC, fdRowsD, fdRowsE, fdRowsF], ∀ i ∈ r,
      FollowsTable i := by
  simp only [fdRows8, fdRows9, fdRowsA, fdRowsB, fdRowsC, fdRowsD, fdRowsE, fdRowsF,
    List.forall_mem_cons]
  and_intros
  all_goals first | exact fun s => rfl | exact List.forall_mem_nil _

theorem fd_follows_table (r : List Instr) (hr : r ∈ fdRows) : ∀ i ∈ r, FollowsTable i :=
  (List.mem_append.mp (show r ∈ [fdRows0, fdRows1, fdRows2, fdRows3, fdRows4, fdRows5, fdRows6, fdRows7] ++
      [fdRows8, fdRows9, fdRowsA, fdRowsB, fdRowsC, fdRowsD, fdRowsE, fdRowsF] from hr)).elim
    (fd_low_follows_table r) (fd_high_follows_table r)

theorem ddcb_follows_table : ∀ r ∈ ddcbRows, ∀ i ∈ r, FollowsTable i := by
  simp only [ddcbRows, ddcbRows0, ddcbRows1, ddcbRows2, ddcbRows3, ddcbRows4, ddcbRows5, ddcbRows6, ddcbRows7,
    ddcbRows8, ddcbRows9, ddcbRowsA, ddcbRowsB, ddcbRowsC, ddcbRowsD, ddcbRowsE, ddcbRowsF, List.forall_mem_cons]
  and_intros
  all_goals first | exact fun s => rfl | exact List.forall_mem_nil _

theorem fdcb_follows_table : ∀ r ∈ fdcbRows, ∀ i ∈ r, FollowsTable i := by
  simp only [fdcbRows, fdcbRows0, fdcbRows1, fdcbRows2, fdcbRows3, fdcbRows4, fdcbRows5, fdcbRows6, fdcbRows7,
    fdcbRows8, fdcbRows9, fdcbRowsA, fdcbRowsB, fdcbRowsC, fdcbRowsD, fdcbRowsE, fdcbRowsF, List.forall_mem_cons]
  and_intros
  all_goals first | exact fun s => rfl | exact List.forall_mem_nil _

/-- One equation for all 1792 meanings. -/
theorem exec_eq_entryEffect (i : Instr) (s : State) :
    exec i s =
      entryEffect (defaultTables s.placeholder) i.entry.table
        ((defaultTables s.placeholder).lookup i.entry.table i.entry.index) s := by
  refine forall_instr_of_rows (P := FollowsTable) (fun t => ?_) i s
  cases t with
  | primary => exact primary_follows_table
  | cb => exact cb_follows_table
  | ed => exact ed_follows_table
  | dd => exact dd_follows_table
  | fd => exact fd_follows_table
  | ddcb => exact ddcb_follows_table
  | fdcb => exact fdcb_follows_table

end Sys2Proof.Machine
end

