-- ==== Sys2Proof/Laws/Memory.lean ====
section
/-! SUPPORT. The stream as cells is in canonical form, and every operation on the state keeps it so. -/

namespace Sys2Proof.Machine

/-- Cells numbered upward from any offset are in canonical form. -/
theorem Memory.wf_zipIdx (bytes : List Byte) (k : Nat) :
    Memory.wf ((bytes.zipIdx k).map fun c => (c.2, c.1)) = true := by
  induction bytes generalizing k with
  | nil => rfl
  | cons a rest ih =>
    cases rest with
    | nil => rfl
    | cons b rest =>
      have h := ih (k + 1)
      simp only [List.zipIdx_cons, List.map_cons] at h ⊢
      simp only [Memory.wf, h, Bool.and_true, decide_eq_true_eq]
      omega

/-- Every state's stream is canonical as cells, so every operation keeps the form, the load of a word among them. -/
theorem State.cells_wf (s : State) : Memory.wf s.cells = true :=
  Memory.wf_zipIdx s.stream 0

/-- A read gives a byte exactly at the offsets of the stream (20_memory.md R50). -/
theorem State.read?_isSome (s : State) (i : Nat) : (s.read? i).isSome = true ↔ i < s.size := by
  simp [State.read?, State.size]

/-- Inside the stream the total read is the guarded read. -/
theorem State.read?_eq_byteAt {s : State} {i : Nat} (h : i < s.size) : s.read? i = some (s.byteAt i) := by
  unfold State.size at h
  simp [State.byteAt, State.read?, List.getElem?_eq_getElem h]

end Sys2Proof.Machine
end

