-- ==== Sys2Proof/Laws/Tables.lean ====
section
/-! SUPPORT. What stands in the default tables at the entry of each instruction: its descriptor has the length of the instruction's operand form, and the markers lead where the decoder goes. -/

namespace Sys2Proof.Machine

/-- A descriptor without the text of a placeholder. -/
def bareDescriptor : Descriptor → Descriptor
  | .placeholder _ L => .placeholder "" L
  | .plain m L => .plain m L
  | .prefixTo t => .prefixTo t
  | .displacedPrefixTo t => .displacedPrefixTo t

/-- The placeholder text changes nothing but the text of placeholders. -/
theorem defaultTables_bare (ph : String) (t : TableId) :
    ((defaultTables ph).table t).map bareDescriptor = ((defaultTables "").table t).map bareDescriptor := by
  cases t with
  | primary | cb | ddcb | fdcb => rfl
  | ed => simp only [defaultTables, TableSet.table, edEntries, List.map_flatten]; rfl
  | dd => simp only [defaultTables, TableSet.table, ddEntries, List.map_flatten]; rfl
  | fd => simp only [defaultTables, TableSet.table, fdEntries, List.map_flatten]; rfl

/-- The length an instruction's operand form goes with. -/
def formLengthIs (i : Instr) (L : Nat) : Bool :=
  match i.entry with
  | ⟨_, _, form⟩ => form.length == L

/-- What the descriptor of an instruction must be. -/
def descriptorAgrees (i : Instr) : Descriptor → Bool
  | .plain _ L => formLengthIs i L
  | .placeholder _ L => formLengthIs i L
  | .prefixTo t => i.markerTable == some t
  | .displacedPrefixTo t => i.displacedTable == some t

theorem descriptorAgrees_bare (i : Instr) (d : Descriptor) :
    descriptorAgrees i (bareDescriptor d) = descriptorAgrees i d := by
  cases d <;> rfl

theorem tables_agree_with_entries :
    (allTables.all fun t =>
      ((defaultTables "").table t).length == 256 &&
      ((defaultTables "").table t).zipIdx.all fun c =>
        match rowAt t (BitVec.ofNat 8 c.2) with
        | some i => descriptorAgrees i c.1
        | none => false) = true := by
  decide +kernel

/-- Every instruction has a descriptor in the default tables, and it agrees with the instruction. -/
theorem lookup_agrees (ph : String) (i : Instr) :
    ∃ d, (defaultTables ph).lookup i.entry.table i.entry.index = some d ∧ descriptorAgrees i d = true := by
  have h := List.all_eq_true.mp tables_agree_with_entries i.entry.table (mem_allTables _)
  rw [Bool.and_eq_true, beq_iff_eq] at h
  have hk : i.entry.index.toNat < ((defaultTables "").table i.entry.table).length := by
    rw [h.1]; exact i.entry.index.isLt
  have ha := List.all_eq_true.mp h.2 (_, i.entry.index.toNat)
    (List.mk_mem_zipIdx_iff_getElem?.mpr (List.getElem?_eq_getElem hk))
  simp only [BitVec.ofNat_toNat, BitVec.setWidth_eq, rowAt_entry] at ha
  have hb := congrArg (fun l => l[i.entry.index.toNat]?) (defaultTables_bare ph i.entry.table)
  simp only [List.getElem?_map, List.getElem?_eq_getElem hk] at hb
  cases hl : ((defaultTables ph).table i.entry.table)[i.entry.index.toNat]? with
  | none => rw [hl] at hb; cases hb
  | some d =>
    rw [hl] at hb
    refine ⟨d, hl, ?_⟩
    rw [← descriptorAgrees_bare, Option.some.inj hb, descriptorAgrees_bare]
    exact ha

/-- An instruction that is no marker has an instruction entry, of the length of its operand form. -/
theorem lookup_isLine (ph : String) {i : Instr} (h : i.isMarker = false) :
    ∃ m, IsLine ((defaultTables ph).lookup i.entry.table i.entry.index) m i.entry.form.length := by
  obtain ⟨d, hd, ha⟩ := lookup_agrees ph i
  rw [hd]
  cases d with
  | plain m L =>
    simp only [descriptorAgrees, formLengthIs, beq_iff_eq] at ha
    exact ⟨m, .inl (by rw [ha])⟩
  | placeholder m L =>
    simp only [descriptorAgrees, formLengthIs, beq_iff_eq] at ha
    exact ⟨m, .inr (by rw [ha])⟩
  | prefixTo t =>
    simp only [descriptorAgrees, beq_iff_eq] at ha
    simp [Instr.isMarker, ha] at h
  | displacedPrefixTo t =>
    simp only [descriptorAgrees, beq_iff_eq] at ha
    simp [Instr.isMarker, ha] at h

/-- A prefix marker's descriptor leads where the decoder goes (30_encoding.md R84). -/
theorem lookup_marker (ph : String) {i : Instr} {t : TableId} (h : i.markerTable = some t) :
    (defaultTables ph).lookup i.entry.table i.entry.index = some (.prefixTo t) := by
  simp only [Instr.markerTable, Option.ite_none_right_eq_some, prefixTable] at h
  obtain ⟨ht, h⟩ := h
  rw [ht]
  split at h
  · rename_i hx; rw [hx, ← Option.some.inj h]; rfl
  · split at h
    · rename_i hx; rw [hx, ← Option.some.inj h]; rfl
    · split at h
      · rename_i hx; rw [hx, ← Option.some.inj h]; rfl
      · split at h
        · rename_i hx; rw [hx, ← Option.some.inj h]; rfl
        · cases h

/-- A displaced marker's descriptor leads where the decoder goes (30_encoding.md R85). -/
theorem lookup_displacedMarker (ph : String) {i : Instr} {t : TableId} (h : i.displacedTable = some t) :
    (defaultTables ph).lookup i.entry.table i.entry.index = some (.displacedPrefixTo t) := by
  simp only [Instr.displacedTable, Option.ite_none_right_eq_some] at h
  obtain ⟨hx, h⟩ := h
  rw [hx]
  split at h
  · rename_i ht; rw [ht, ← Option.some.inj h]; rfl
  · rename_i ht; rw [ht, ← Option.some.inj h]; rfl
  all_goals cases h

end Sys2Proof.Machine
end

