-- ==== Sys2Proof/Tests/Slice0.lean ====
section
/-! SUPPORT. The model's own tests. Expected results are those of spec/95_test_vectors.md (S, V, E, F rows) or of the worked example of the rule named; the witnesses show states that meet the hypotheses of the statements. -/

namespace Sys2Proof.Machine.Tests

/-- A run on `bytes` at its start, with the default tables. -/
def onStream (bytes : List Byte) : State := State.start bytes .standard "NOP"

/-- The same, with the cursor at offset `k`. -/
def onStreamAt (bytes : List Byte) (k : Nat) : State :=
  { onStream bytes with off := k, addr := BitVec.ofNat 16 k }

/-- What a step leaves of the cursor, the run and the lines. -/
def seen : Outcome → Option (Nat × Word × RunState × List DecodedLine)
  | .next t => some (t.off, t.addr, t.run, t.out)
  | .fault _ => none
  | .refused _ => none

/-! Well-formedness: each check refuses an ill-formed term (30_encoding.md R97). -/

/-- A small table set that no check but the one under test needs to accept. -/
def tinyTables : TableSet := ⟨[], [], [], [], [], [], []⟩

theorem test_wf1_refuses_missing_entries : ({ defaultTables "NOP" with cb := [] }).passes .complete = false := by
  decide +kernel
theorem test_wf2_refuses_length_zero : ({ tinyTables with primary := [.plain "X" 0] }).passes .primaryForms = false := by
  decide
theorem test_wf2_refuses_displaced_in_primary :
    ({ tinyTables with primary := [.displacedPrefixTo .ddcb] }).passes .primaryForms = false := by decide
theorem test_wf3_refuses_two_prefixes_to_one_table :
    ({ tinyTables with primary := [.prefixTo .cb, .prefixTo .cb, .prefixTo .ed, .prefixTo .dd, .prefixTo .fd] }).passes
      .prefixOneToOne = false := by decide
theorem test_wf4_refuses_prefix_in_secondary : ({ tinyTables with ed := [.prefixTo .cb] }).passes .secondaryForms = false := by
  decide
theorem test_wf5_refuses_unreached_third_level :
    ({ tinyTables with dd := [.displacedPrefixTo .ddcb] }).passes .displacedOneToOne = false := by decide
theorem test_wf6_refuses_length_three : ({ tinyTables with ddcb := [.plain "X" 3] }).passes .thirdLevelForms = false := by
  decide
theorem test_wf7_refuses_empty_text : ({ tinyTables with cb := [.plain "" 1] }).passes .mnemonicTexts = false := by
  decide
theorem test_wf7_refuses_line_feed : mnemonicText "NOP\nNOP" = false := by decide
theorem test_default_tables_pass : (defaultTables "NOP").wellFormed = true := by decide +kernel
theorem test_instr_refuses_dispatch_row : Instr.wellFormed .pCB_PREFIX_CB .none = false := by decide
theorem test_instr_refuses_displaced_row : Instr.wellFormed .ddCB_PREFIX_DDCB (.u8 5) = false := by decide
theorem test_instr_refuses_operand_width : Instr.wellFormed .p01_LD_BC_nn (.u8 5) = false := by decide
theorem test_instr_accepts_operand : Instr.wellFormed .p01_LD_BC_nn (.u16 0x1234) = true := by decide

/-! Decoding of words written out from the encodings of opcode_table.json. -/

/-- R1001 `00000001 llllllll hhhhhhhh`. -/
theorem test_decode_ld_bc_nn : decode [0b00000001, 0x34, 0x12] = .instr .p01_LD_BC_nn (.u16 0x1234) [] := by decide
/-- R1006 `00000110 nnnnnnnn`. -/
theorem test_decode_ld_b_n : decode [0b00000110, 0x7F, 0x00] = .instr .p06_LD_B_n (.u8 0x7F) [0x00] := by decide
/-- R1118 `01110110`. -/
theorem test_decode_halt : decode [0b01110110] = .instr .p76_HALT .none [] := by decide
/-- R2054 `11001011 00110110`. -/
theorem test_decode_sll_hl : decode [0b11001011, 0b00110110] = .instr .cb36_SLL_mHL .none [] := by decide
/-- R3067 `11101101 01000011 llllllll hhhhhhhh`. -/
theorem test_decode_ld_nn_bc :
    decode [0b11101101, 0b01000011, 0x34, 0x12] = .instr .ed43_LD_mnn_BC (.u16 0x1234) [] := by decide
/-- R4054 `11011101 00110110 dddddddd nnnnnnnn`. -/
theorem test_decode_ld_ixd_n :
    decode [0b11011101, 0b00110110, 0x05, 0x12] = .instr .dd36_LD_mIXd_n (.u16 0x1205) [] := by decide
/-- R5229 `11111101 11100101`. -/
theorem test_decode_push_iy : decode [0b11111101, 0b11100101] = .instr .fdE5_PUSH_IY .none [] := by decide
/-- R6000 `11011101 11001011 dddddddd 00000000`. -/
theorem test_decode_rlc_ixd_b :
    decode [0b11011101, 0b11001011, 0x05, 0b00000000] = .instr .ddcb00_RLC_mIXd_B (.u8 0x05) [] := by decide
/-- R7006 `11111101 11001011 dddddddd 00000110`. -/
theorem test_decode_rlc_iyd :
    decode [0b11111101, 0b11001011, 0x05, 0b00000110] = .instr .fdcb06_RLC_mIYd (.u8 0x05) [] := by decide
theorem test_decode_lone_prefix : decode [0xCB] = .truncated .pCB_PREFIX_CB .truncatedPrefix := by decide
theorem test_decode_displaced_cut_short : decode [0xDD, 0xCB, 0x05] = .truncated .ddCB_PREFIX_DDCB .truncatedOperand := by
  decide
theorem test_decode_operand_cut_short : decode [0x01, 0x34] = .truncated .p01_LD_BC_nn .truncatedOperand := by decide
theorem test_table_word_of_instruction : decodeTableWord 32 0xDDCB00FF = some .ddcbFF_SET_7_mIXd_A := by decide
theorem test_table_word_of_dispatch_row : decodeTableWord 16 0xED00 = some .ed00_PLACEHOLDER := by decide
theorem test_encode_displaced : encode .ddcb46_BIT_0_mIXd (.u8 0x05) = [0xDD, 0xCB, 0x05, 0x46] := by decide

/-! One step. -/

/-- S3. -/
theorem test_step_ld_b_n :
    seen (step (onStream [0x06, 0x7F])) = some (2, 2, .running, [⟨0, "LD B,n", .u8 0x7F⟩]) := by decide
/-- V13: four digits' width for a 16-bit operand below 0100. -/
theorem test_step_ld_hl_nn :
    seen (step (onStream [0x21, 0x12, 0x00])) = some (3, 3, .running, [⟨0, "LD HL,nn", .u16 0x0012⟩]) := by decide
/-- S2. -/
theorem test_step_rlc_b : seen (step (onStream [0xCB, 0x00])) = some (2, 2, .running, [⟨0, "RLC B", .none⟩]) := by decide
/-- V37. -/
theorem test_step_ld_nn_hl :
    seen (step (onStream [0xED, 0x63, 0xFF, 0xEE])) = some (4, 4, .running, [⟨0, "LD (nn),HL", .u16 0xEEFF⟩]) := by
  decide
/-- V39: another placeholder text. -/
theorem test_step_placeholder_text :
    seen (step (State.start [0xED, 0x00] .standard "???")) = some (2, 2, .running, [⟨0, "???", .none⟩]) := by decide
/-- V45: the displacement is unsigned. -/
theorem test_step_ld_a_ixd :
    seen (step (onStream [0xDD, 0x7E, 0xFB])) = some (3, 3, .running, [⟨0, "LD A,(IX+d)", .u8 0xFB⟩]) := by decide
/-- V61. -/
theorem test_step_ld_iyd_n :
    seen (step (onStream [0xFD, 0x36, 0x05, 0x12])) = some (4, 4, .running, [⟨0, "LD (IY+d),n", .u16 0x1205⟩]) := by
  decide
/-- V73. -/
theorem test_step_bit_ixd :
    seen (step (onStream [0xDD, 0xCB, 0x05, 0x47])) = some (4, 4, .running, [⟨0, "BIT 0,(IX+d)", .u8 0x05⟩]) := by decide
/-- V77. -/
theorem test_step_set_iyd :
    seen (step (onStream [0xFD, 0xCB, 0x05, 0xFE])) = some (4, 4, .running, [⟨0, "SET 7,(IY+d)", .u8 0x05⟩]) := by decide
/-- V80, V53, V4 and V75: the stop reasons, with the cursor unmoved. -/
theorem test_step_end : seen (step (onStream [])) = some (0, 0, .stopped .endOfStream, []) := by decide
theorem test_step_lone_prefix : seen (step (onStream [0xDD])) = some (0, 0, .stopped .truncatedPrefix, []) := by decide
theorem test_step_operand_cut_short :
    seen (step (onStream [0x01, 0x34])) = some (0, 0, .stopped .truncatedOperand, []) := by decide
theorem test_step_displaced_cut_short :
    seen (step (onStream [0xDD, 0xCB, 0x05])) = some (0, 0, .stopped .truncatedOperand, []) := by decide
/-- The example of R143: the address wraps. -/
theorem test_exec_address_wraps :
    seen (exec .p01_LD_BC_nn { onStream [0x01, 0x34, 0x12] with addr := 0xFFFF }) =
      some (3, 2, .running, [⟨0xFFFF, "LD BC,nn", .u16 0x1234⟩]) := by decide
/-- The examples of R1203 and R4203: a dispatch row runs the entry it leads to. -/
theorem test_exec_prefix_row :
    seen (exec .pCB_PREFIX_CB (onStream [0xCB, 0x00])) = some (2, 2, .running, [⟨0, "RLC B", .none⟩]) := by decide
theorem test_exec_displaced_row :
    seen (exec .ddCB_PREFIX_DDCB (onStream [0xDD, 0xCB, 0x05, 0x06])) =
      some (4, 4, .running, [⟨0, "RLC (IX+d)", .u8 0x05⟩]) := by decide
/-- E1: a table set whose CB entry 00 has length 2 decodes three bytes. -/
theorem test_engine_replacement_entry :
    seen (Engine.step { defaultTables "NOP" with cb := [.plain "M" 2] } (onStream [0xCB, 0x00, 0x2A])) =
      some (3, 3, .running, [⟨0, "M", .u8 0x2A⟩]) := by decide
theorem test_placed_word_runs :
    seen (step (State.reset.withFetchWord 24 0x010000)) = some (3, 3, .running, [⟨0, "LD BC,nn", .u16 0⟩]) := by decide

/-! Text (F2 to F5). -/

theorem test_text_no_operand : (DecodedLine.mk 0x000C "PUSH IY" .none).text = "000c: PUSH IY\n" := by decide
theorem test_text_byte : (DecodedLine.mk 0xABCD "LD B,n" (.u8 0x0A)).text = "abcd: LD B,n #0a\n" := by decide
theorem test_text_word : (DecodedLine.mk 0xFFFF "LD BC,nn" (.u16 0x0012)).text = "ffff: LD BC,nn #0012\n" := by decide
theorem test_listing :
    listing [⟨0, "NOP", .none⟩, ⟨1, "LD BC,nn", .u16 0x1234⟩] = "0000: NOP\n0001: LD BC,nn #1234\n" := by decide

/-! Witnesses: states and operands that meet the hypotheses of the statements, at the boundaries of their clauses. -/

theorem onStreamAt_ready (bytes : List Byte) (k : Nat) : Ready (onStreamAt bytes k) :=
  ⟨rfl, (by decide : mnemonicText "NOP" = true)⟩

theorem witness_ResetStartsRunOnSameStream : (onStream [0x00]).tablesOk = true := by decide
theorem witness_InvariantKeptByEveryStep :
    Inv (onStreamAt [0x00] 0) ∧ (seen (step (onStreamAt [0x00] 0))).isSome = true :=
  ⟨⟨by decide, by decide, by decide⟩, by decide⟩
theorem witness_RunEndsWithinStreamLength : Ready (onStreamAt [0x00, 0x00] 1) := onStreamAt_ready _ _
theorem witness_RunEmitsAtMostStreamLength : (decodeStream .standard "NOP" [0x00]).isSome = true := by decide
theorem witness_LinesOfPrefixAreFirstLines :
    (decodeStream .standard "NOP" [0x01]).isSome = true ∧
    (decodeStream .standard "NOP" ([0x01] ++ [0x34, 0x12])).isSome = true := by decide
theorem witness_EndOfStreamStopsWithNoLine :
    Ready (onStreamAt [0x00] 1) ∧ (onStreamAt [0x00] 1).off ≥ (onStreamAt [0x00] 1).size ∧ Inv (onStreamAt [0x00] 1) :=
  ⟨onStreamAt_ready _ _, by decide, by decide, by decide, by decide⟩
theorem witness_LonePrefixStopsWithNoLine :
    Ready (onStreamAt [0x00, 0xED] 1) ∧ (onStreamAt [0x00, 0xED] 1).off + 1 = (onStreamAt [0x00, 0xED] 1).size ∧
    (onStreamAt [0x00, 0xED] 1).tableSet.lookup .primary ((onStreamAt [0x00, 0xED] 1).byteAt 1) = some (.prefixTo .ed) :=
  ⟨onStreamAt_ready _ _, by decide, by decide⟩
theorem witness_EntryStepEmitsLineAndAdvances_primary :
    IsLine ((onStream [0x01, 0x34, 0x12]).tableSet.lookup .primary 0x01) "LD BC,nn" 3 ∧
    (onStream [0x01, 0x34, 0x12]).off + 3 = (onStream [0x01, 0x34, 0x12]).size := ⟨.inl (by decide), by decide⟩
theorem witness_EntryStepEmitsLineAndAdvances_secondary :
    (onStream [0xED, 0x43, 0x34, 0x12]).tableSet.lookup .primary 0xED = some (.prefixTo .ed) ∧
    IsLine ((onStream [0xED, 0x43, 0x34, 0x12]).tableSet.lookup .ed 0x43) "LD (nn),BC" 3 ∧
    (onStream [0xED, 0x43, 0x34, 0x12]).off + (3 + 1) = (onStream [0xED, 0x43, 0x34, 0x12]).size :=
  ⟨by decide, .inl (by decide), by decide⟩
theorem witness_DisplacedStepEmitsDisplacement :
    (onStream [0xDD, 0xCB, 0x05]).tableSet.lookup .dd 0xCB = some (.displacedPrefixTo .ddcb) ∧
    (onStream [0xDD, 0xCB, 0x05]).off + 3 = (onStream [0xDD, 0xCB, 0x05]).size ∧
    (onStream [0xDD, 0xCB, 0x05, 0x46]).off + 3 < (onStream [0xDD, 0xCB, 0x05, 0x46]).size := by decide
theorem witness_CutShortEntryStopsWithNoLine :
    (IsLine ((onStream [0x01, 0x34]).tableSet.lookup .primary 0x01) "LD BC,nn" 3 ∧
      (onStream [0x01, 0x34]).off + 3 = (onStream [0x01, 0x34]).size + 1) ∧
    (IsLine ((onStream [0xDD, 0x34]).tableSet.lookup .dd 0x34) "INC (IX+d)" 2 ∧
      (onStream [0xDD, 0x34]).off + (2 + 1) = (onStream [0xDD, 0x34]).size + 1) :=
  ⟨⟨.inl (by decide), by decide⟩, .inl (by decide), by decide⟩
theorem witness_StopChangesOnlyRunState :
    step (onStream [0xCB]) = .next ((onStream [0xCB]).stop .truncatedPrefix) ∧
    ((onStream [0xCB]).stop .truncatedPrefix).run ≠ .running := ⟨rfl, by decide⟩
theorem witness_StoppedRunHasNoStep :
    ((onStream [0xCB]).stop .truncatedPrefix).run = .stopped .truncatedPrefix ∧
    ((onStream [0xCB]).stop .truncatedPrefix).tablesOk = true := by decide
theorem witness_IllFormedTablesRefused : tinyTables.passes .complete = false := by decide
theorem witness_DefaultTablesPassAllChecks : mnemonicText "NOP" = true := by decide
theorem witness_RunningStepAnswersNextState : Ready (onStreamAt [] 0) := onStreamAt_ready _ _
theorem witness_DecodeIgnoresAddressAndLines :
    (onStream [0x00]).stream = ({ onStream [0x00] with addr := 7, out := [⟨0, "NOP", .none⟩] } : State).stream ∧
    (seen (step (onStream [0x00]))).isSome = true := by decide
theorem witness_StepReadsAtMostFourBytes :
    ((onStream [0xDD, 0xCB, 0x05, 0x46, 0x00]).stream.drop 0).take 4 = ([0xDD, 0xCB, 0x05, 0x46, 0xFF].drop 0).take 4 ∧
    (seen (step (onStream [0xDD, 0xCB, 0x05, 0x46, 0x00]))).isSome = true := by decide
theorem witness_StandardStepIsTableStep : Ready (onStreamAt [0x00] 0) ∧ (onStreamAt [0x00] 0).tables = .standard :=
  ⟨onStreamAt_ready _ _, rfl⟩
theorem witness_StepRunsDecodedInstruction :
    Ready (onStreamAt [0x00, 0x06, 0x7F] 1) ∧
    decode ((onStreamAt [0x00, 0x06, 0x7F] 1).stream.drop 1) = .instr .p06_LD_B_n (.u8 0x7F) [] :=
  ⟨onStreamAt_ready _ _, by decide⟩
theorem witness_EncodedInstructionDecodesToItself :
    Instr.wellFormed .ddcbFF_SET_7_mIXd_A (.u8 0xFF) = true ∧ Instr.wellFormed .p00_NOP .none = true := by decide
theorem witness_DecodedInstructionEncodesToItsBytes : decode [0x00, 0xFF] = .instr .p00_NOP .none [0xFF] := by decide
theorem witness_TruncatedInstructionStops :
    decode ((onStreamAt [0x00, 0xFD, 0xCB] 1).stream.drop 1) = .truncated .fdCB_PREFIX_FDCB .truncatedOperand := by decide
theorem witness_DecodedInstructionEmitsItsLine :
    decode ((onStream [0xED, 0x00]).stream.drop 0) = .instr .ed00_PLACEHOLDER .none [] := by decide
theorem witness_PrimaryInstructionsComplete :
    Instr.entry .p01_LD_BC_nn = ⟨.primary, 0x01, .word⟩ ∧ Instr.isMarker .p01_LD_BC_nn = false ∧
    (onStream [0x01, 0x34, 0x12]).off + OperandForm.length .word = (onStream [0x01, 0x34, 0x12]).size := by decide
theorem witness_CbInstructionsComplete :
    Instr.entry .cb00_RLC_B = ⟨.cb, 0x00, .none⟩ ∧ (onStream [0xCB, 0x00]).off + 2 = (onStream [0xCB, 0x00]).size := by
  decide
theorem witness_EdInstructionsComplete :
    Instr.entry .ed43_LD_mnn_BC = ⟨.ed, 0x43, .word⟩ ∧
    (onStream [0xED, 0x43, 0x34, 0x12]).off + (OperandForm.length .word + 1) =
      (onStream [0xED, 0x43, 0x34, 0x12]).size := by decide
theorem witness_IndexInstructionsComplete :
    Instr.entry .ddFF_RST_38H = ⟨.dd, 0xFF, .none⟩ ∧ Instr.entry .fd36_LD_mIYd_n = ⟨.fd, 0x36, .word⟩ ∧
    Instr.isMarker .ddFF_RST_38H = false ∧ Instr.isMarker .fd36_LD_mIYd_n = false ∧
    (onStream [0xFD, 0x36, 0x05, 0x12]).off + (OperandForm.length .word + 1) =
      (onStream [0xFD, 0x36, 0x05, 0x12]).size := by decide
theorem witness_DisplacedInstructionsComplete :
    Instr.entry .ddcb00_RLC_mIXd_B = ⟨.ddcb, 0x00, .byte⟩ ∧ Instr.entry .fdcbFF_SET_7_mIYd_A = ⟨.fdcb, 0xFF, .byte⟩ ∧
    (onStream [0xDD, 0xCB, 0x05, 0x00]).off + 4 = (onStream [0xDD, 0xCB, 0x05, 0x00]).size := by decide
theorem witness_DispatchRowsComplete :
    Instr.markerTable .pED_PREFIX_ED = some .ed ∧ Instr.markerTable .pDD_PREFIX_DD = some .dd ∧
    Instr.displacedTable .fdCB_PREFIX_FDCB = some .fdcb ∧
    (defaultTables "NOP").lookup .ed ((onStream [0xED, 0x44]).byteAt 1) = some (.plain "NEG" 1) ∧
    (defaultTables "NOP").lookup .dd ((onStream [0xDD, 0xCB, 0x05, 0x46]).byteAt 1) = some (.displacedPrefixTo .ddcb) ∧
    (onStream [0xED, 0x44]).off + (1 + 1) = (onStream [0xED, 0x44]).size ∧
    (onStream [0xDD, 0xCB, 0x05, 0x46]).off + 4 = (onStream [0xDD, 0xCB, 0x05, 0x46]).size := by decide
theorem witness_PlaceholderInstructionsComplete :
    placeholderAt (Instr.entry .ed3F_PLACEHOLDER).table 0x3F = true ∧
    placeholderAt (Instr.entry .ed77_PLACEHOLDER).table 0x77 = true ∧
    placeholderAt (Instr.entry .edBF_PLACEHOLDER).table 0xBF = true ∧
    placeholderAt (Instr.entry .fdFD_PLACEHOLDER).table 0xFD = true ∧
    (onStream [0xED, 0x3F]).off + 2 = (onStream [0xED, 0x3F]).size := by decide
theorem witness_placeholder_boundaries :
    ([0x3F, 0x40, 0x76, 0x77, 0x78, 0x7F, 0x80, 0x9F, 0xA0, 0xA3, 0xA4, 0xA7, 0xA8, 0xBB, 0xBC, 0xBF, 0xC0].map
      fun b => placeholderAt .ed b) =
      [true, false, false, true, false, true, true, true, false, false, true, true, false, false, true, true, true] := by
  decide
theorem witness_InstructionsCutShortStop :
    Instr.isMarker .ed43_LD_mnn_BC = false ∧ (onStreamAt [0xED] 1).off ≥ (onStreamAt [0xED] 1).size ∧
    (onStream [0xED]).off + 1 = (onStream [0xED]).size ∧
    (onStream [0xED, 0x43, 0x34]).off + Instr.totalLength .ed43_LD_mnn_BC = (onStream [0xED, 0x43, 0x34]).size + 1 := by
  decide
theorem witness_FrameOfEveryInstruction : (seen (exec .p76_HALT (onStream [0x76]))).isSome = true := by decide
theorem witness_ControlTransferOnlyAdvances :
    ⟨.pCD_CALL_nn, "CALL nn", 3⟩ ∈ controlPrimary ∧
    (onStream [0xCD, 0x34, 0x12]).off + 3 = (onStream [0xCD, 0x34, 0x12]).size ∧
    ⟨.ddE9_JP_mIX, "JP (IX)", 1⟩ ∈ controlPrefixed ∧ (onStream [0xDD, 0xE9]).off + (1 + 1) = (onStream [0xDD, 0xE9]).size ∧
    isControlTransfer "RET NZ" = true ∧ isControlTransfer "RES 0,B" = false := by decide +kernel
theorem witness_control_row_in_tables :
    (defaultTables "NOP").lookup .fd 0xFF = some (.plain "RST 38H" 1) ∧ Instr.entry .fdFF_RST_38H = ⟨.fd, 0xFF, .none⟩ := by
  decide
theorem witness_SystemInstructionsAreLines :
    ⟨.pD3_OUT_mn_A, "OUT (n),A", 2⟩ ∈ systemPrimary ∧ (onStream [0xD3, 0x00]).off + 2 = (onStream [0xD3, 0x00]).size ∧
    ⟨.ed5E_IM_2, "IM 2", 1⟩ ∈ systemPrefixed ∧ (onStream [0xED, 0x5E]).off + (1 + 1) = (onStream [0xED, 0x5E]).size ∧
    isSystemInstruction "LD A,R" = true ∧ isSystemInstruction "INC B" = false := by decide +kernel
theorem witness_PrefixValueInsideInstructionIsData :
    prefixTable 0x01 = none ∧ (Operand.u16 0xFDCB).fits (Instr.entry .p01_LD_BC_nn).form = true ∧
    prefixTable 0xED = some .ed ∧ prefixTable 0xFD = some .fd ∧ ¬ ((0xDD : Byte) = 0xCB) ∧
    (Operand.none).fits (Instr.entry .fdDD_PLACEHOLDER).form = true := by decide
theorem witness_WrittenOutEntriesComplete :
    (onStream [0x00]).off + 1 = (onStream [0x00]).size ∧ (onStream [0x06, 0x7F]).off + 2 = (onStream [0x06, 0x7F]).size ∧
    (onStream [0x01, 0x34, 0x12]).off + 3 = (onStream [0x01, 0x34, 0x12]).size ∧
    (onStream [0xDD, 0xCB, 0x05, 0x46]).off + 4 = (onStream [0xDD, 0xCB, 0x05, 0x46]).size := by decide
theorem witness_PlacedTableWordRunsNext : decodeTableWord 8 0x00 = some .p00_NOP := by decide

/-! Several decoders. -/

/-- Two decoders over one table set: each has decoded its own first instruction. -/
theorem test_group_steps_one_decoder :
    (((DecoderGroup.start .standard "NOP" [[0x00, 0x76], [0x76]]).stepAt 0).decoders.map fun d => (d.off, d.out.length)) =
      [(1, 1), (0, 0)] := by decide
theorem witness_DecodersRunAsIfAlone :
    (DecoderGroup.start .standard "NOP" [[0x00], [0x76]]).decoders[1]? =
      some (State.start [0x76] .standard "NOP").decoder ∧ [1, 0, 1].count 1 = 2 := by decide
theorem witness_GroupOutputIsDecodeOfEachStream :
    ([[0x00], [0x76]] : List (List Byte))[1]? = some [0x76] ∧
    decodeStream .standard "NOP" [0x76] = some [⟨0, "HALT", .none⟩] ∧
    ([0x76] : List Byte).length + 1 ≤ [1, 0, 1].count 1 := by decide

end Sys2Proof.Machine.Tests
end

section
/-! PROOFS. The step of a running decoder by its choice of tables, and the lone prefix byte (40_decoder.md R134). -/

namespace Sys2Proof.Machine

/-! A running decoder with accepted tables steps by its choice of tables. -/

theorem step_of_standard {s : State} (h : Ready s) (ht : s.tables = .standard) : step s = stepStandard s := by
  obtain ⟨hrun, hok⟩ := h
  simp only [step, hok, hrun, ht, if_true]

theorem step_of_replacement {s : State} {T : TableSet} (h : Ready s) (ht : s.tables = .replacement T) :
    step s = Engine.step T s := by
  obtain ⟨hrun, hok⟩ := h
  simp only [step, hok, hrun, ht, if_true]

theorem State.tableSet_of_standard {s : State} (ht : s.tables = .standard) :
    s.tableSet = defaultTables s.placeholder := by
  simp only [State.tableSet, ht]

theorem State.tableSet_of_replacement {s : State} {T : TableSet} (ht : s.tables = .replacement T) :
    s.tableSet = T := by
  simp only [State.tableSet, ht]

/-- Inside the stream, the bytes from an offset on begin with the byte read there. -/
theorem State.drop_eq_byteAt_cons {s : State} {i : Nat} (h : i < s.size) :
    s.stream.drop i = s.byteAt i :: s.stream.drop (i + 1) := by
  have hread : s.stream[i]? = some (s.byteAt i) := State.read?_eq_byteAt h
  obtain ⟨hi, hget⟩ := List.getElem?_eq_some_iff.mp hread
  rw [List.drop_eq_getElem_cons hi, hget]

/-! Prefix bytes of the default tables, as descriptors and as instructions. -/

/-- The four prefix values lead to their secondary tables (30_encoding.md R84). -/
theorem lookup_of_prefixTable (ph : String) {b : Byte} {t : TableId} (h : prefixTable b = some t) :
    (defaultTables ph).lookup .primary b = some (.prefixTo t) := by
  obtain ⟨i, -, htable, hindex⟩ := rowAt_complete .primary b
  have hmarker : i.markerTable = some t := by rw [Instr.markerTable, if_pos htable, hindex, h]
  rw [← htable, ← hindex]
  exact lookup_marker ph hmarker

/-- Where the default tables hold a prefix descriptor, the instruction is the marker that leads to its table. -/
theorem markerTable_of_lookup {ph : String} {i : Instr} {t : TableId}
    (h : (defaultTables ph).lookup i.entry.table i.entry.index = some (.prefixTo t)) :
    i.markerTable = some t := by
  obtain ⟨d, hd, hagrees⟩ := lookup_agrees ph i
  obtain rfl : d = .prefixTo t := Option.some.inj (hd.symm.trans h)
  exact beq_iff_eq.mp hagrees

/-- A prefix byte with nothing after it decodes to its marker, cut short. -/
theorem decode_lone_marker {b : Byte} {i : Instr} {t : TableId} (hrow : rowAt .primary b = some i)
    (hmarker : i.markerTable = some t) : decode [b] = .truncated i .truncatedPrefix := by
  simp only [decode, hrow, hmarker, decodeSelector]

/-! A prefix byte that is the last byte of the stream stops the run (40_decoder.md R134). -/

theorem Engine.dispatch_of_lone_prefix (T : TableSet) (t : TableId) {s : State} (hend : s.off + 1 ≥ s.size) :
    Engine.dispatch T t s = .next (s.stop .truncatedPrefix) := by
  rw [Engine.dispatch, if_pos hend]

theorem Engine.step_of_lone_prefix {T : TableSet} {t : TableId} {s : State} (hoff : s.off < s.size)
    (hend : s.off + 1 ≥ s.size) (hl : T.lookup .primary (s.byteAt s.off) = some (.prefixTo t)) :
    Engine.step T s = .next (s.stop .truncatedPrefix) := by
  rw [Engine.step, if_neg (Nat.not_le.mpr hoff), hl]
  exact Engine.dispatch_of_lone_prefix T t hend

theorem prefixRow_of_lone_prefix (T : TableSet) (t : TableId) {s : State} (hoff : s.off < s.size)
    (hend : s.off + 1 ≥ s.size) : prefixRow T t s = .next (s.stop .truncatedPrefix) := by
  rw [prefixRow, if_neg (Nat.not_le.mpr hoff)]
  exact Engine.dispatch_of_lone_prefix T t hend

/-- The instruction-by-instruction step decodes the lone byte to its marker row, whose meaning is the stop. -/
theorem stepStandard_of_lone_prefix {t : TableId} {s : State} (hoff : s.off < s.size) (hend : s.off + 1 ≥ s.size)
    (hl : (defaultTables s.placeholder).lookup .primary (s.byteAt s.off) = some (.prefixTo t)) :
    stepStandard s = .next (s.stop .truncatedPrefix) := by
  obtain ⟨i, hrow, htable, hindex⟩ := rowAt_complete .primary (s.byteAt s.off)
  rw [← htable, ← hindex] at hl
  have hbytes : s.stream.drop s.off = [s.byteAt s.off] := by
    rw [State.drop_eq_byteAt_cons hoff, List.drop_eq_nil_of_le hend]
  have hdecode : decode (s.stream.drop s.off) = .truncated i .truncatedPrefix := by
    rw [hbytes, decode_lone_marker hrow (markerTable_of_lookup hl)]
  calc stepStandard s = exec i s := by simp only [stepStandard, hdecode]
    _ = prefixRow (defaultTables s.placeholder) t s := by rw [exec_eq_entryEffect, hl, entryEffect]
    _ = .next (s.stop .truncatedPrefix) := prefixRow_of_lone_prefix _ t hoff hend

theorem step_of_lone_prefix {t : TableId} {s : State} (h : Ready s) (hoff : s.off < s.size)
    (hend : s.off + 1 ≥ s.size) (hl : s.tableSet.lookup .primary (s.byteAt s.off) = some (.prefixTo t)) :
    step s = .next (s.stop .truncatedPrefix) := by
  cases ht : s.tables with
  | standard =>
    rw [State.tableSet_of_standard ht] at hl
    rw [step_of_standard h ht, stepStandard_of_lone_prefix hoff hend hl]
  | replacement T =>
    rw [State.tableSet_of_replacement ht] at hl
    rw [step_of_replacement h ht, Engine.step_of_lone_prefix hoff hend hl]

/-- Settles O9: the general clause is the stop of a lone prefix under either choice of tables, and the four bytes are
its instances because the default tables hold a prefix descriptor at each. -/
theorem lonePrefixStopsWithNoLine : Obligations.LonePrefixStopsWithNoLine := by
  refine ⟨fun s t h hoff hend hl => step_of_lone_prefix h hoff hend hl, fun p hp => ?_⟩
  have hprefix : ∃ t, prefixTable p = some t := by
    obtain rfl | rfl | rfl | rfl := hp
    · exact ⟨.cb, rfl⟩
    · exact ⟨.dd, rfl⟩
    · exact ⟨.ed, rfl⟩
    · exact ⟨.fd, rfl⟩
  obtain ⟨t, hprefix⟩ := hprefix
  have hready : Ready (State.start [p] .standard "NOP") := ⟨rfl, (by decide : mnemonicText "NOP" = true)⟩
  exact step_of_lone_prefix hready Nat.zero_lt_one le_rfl (lookup_of_prefixTable "NOP" hprefix)

end Sys2Proof.Machine
end

section
/-! PROOFS. Where the decoder goes from the bytes at an instruction start, row by row (30_encoding.md R90). -/

namespace Sys2Proof

/-! Markers and the tables they lead to. -/

theorem isSecondary_of_prefixTable {b : Byte} {t : TableId} (h : prefixTable b = some t) : t.isSecondary = true := by
  unfold prefixTable at h
  split_ifs at h <;> cases h <;> rfl

theorem isSecondary_of_markerTable {i : Instr} {t : TableId} (h : i.markerTable = some t) : t.isSecondary = true := by
  rw [Instr.markerTable, Option.ite_none_right_eq_some] at h
  exact isSecondary_of_prefixTable h.2

theorem isThirdLevel_of_displacedTable {i : Instr} {t3 : TableId} (h : i.displacedTable = some t3) :
    t3.isThirdLevel = true := by
  rw [Instr.displacedTable, Option.ite_none_right_eq_some] at h
  cases ht : i.entry.table <;> rw [ht] at h <;> cases h.2 <;> rfl

theorem markerTable_eq_none {i : Instr} (h : i.entry.table ≠ .primary) : i.markerTable = none :=
  if_neg h

theorem displacedTable_eq_none {i : Instr} (h : i.entry.table.isSecondary = false) : i.displacedTable = none := by
  cases ht : i.entry.table with
  | primary | ddcb | fdcb => simp only [Instr.displacedTable, ht, ite_self]
  | cb | ed | dd | fd => rw [ht] at h; cases h

theorem isMarker_eq_false {i : Instr} (hm : i.markerTable = none) (hd : i.displacedTable = none) :
    i.isMarker = false := by
  rw [Instr.isMarker, hm, hd]; rfl

theorem ne_primary_of_isSecondary {t : TableId} (h : t.isSecondary = true) : t ≠ .primary := by
  rintro rfl; cases h

theorem isMarker_eq_false_of_isThirdLevel {i : Instr} (h : i.entry.table.isThirdLevel = true) : i.isMarker = false := by
  have hprimary : i.entry.table ≠ .primary := by
    intro ht; rw [ht] at h; cases h
  have hsecondary : i.entry.table.isSecondary = false := by
    cases ht : i.entry.table with
    | primary | ddcb | fdcb => rfl
    | cb | ed | dd | fd => rw [ht] at h; cases h
  exact isMarker_eq_false (markerTable_eq_none hprimary) (displacedTable_eq_none hsecondary)

/-! One equation for each way the decoder goes on. -/

theorem decode_of_row {b : Byte} {i : Instr} (hrow : rowAt .primary b = some i) (hm : i.markerTable = none)
    (rest : List Byte) : decode (b :: rest) = decodeOperand i rest := by
  simp only [decode, hrow, hm]

theorem decode_of_marker {b : Byte} {i : Instr} {t : TableId} (hrow : rowAt .primary b = some i)
    (hm : i.markerTable = some t) (rest : List Byte) : decode (b :: rest) = decodeSelector i t rest := by
  simp only [decode, hrow, hm]

theorem decodeSelector_of_row {marker j : Instr} {t : TableId} {sel : Byte} (hrow : rowAt t sel = some j)
    (hd : j.displacedTable = none) (rest : List Byte) :
    decodeSelector marker t (sel :: rest) = decodeOperand j rest := by
  simp only [decodeSelector, hrow, hd]

theorem decodeSelector_of_marker {marker j : Instr} {t t3 : TableId} {sel : Byte} (hrow : rowAt t sel = some j)
    (hd : j.displacedTable = some t3) (rest : List Byte) :
    decodeSelector marker t (sel :: rest) = decodeDisplaced j t3 rest := by
  simp only [decodeSelector, hrow, hd]

/-! The instruction the decoder names. -/

/-- The instruction a decoding names, whether or not the stream holds all its bytes. -/
def Decoded.instr? : Decoded → Option Instr
  | .instr i _ _ => some i
  | .truncated i _ => some i
  | .endOfStream => none
  | .noEntry => none

@[simp] theorem decodeOperand_instr? (i : Instr) (bytes : List Byte) : (decodeOperand i bytes).instr? = some i := by
  unfold decodeOperand
  split <;> split <;> rfl

theorem decodeDisplaced_instr? {marker k : Instr} {t3 : TableId} {d x : Byte} (hrow : rowAt t3 x = some k)
    (rest : List Byte) : (decodeDisplaced marker t3 (d :: x :: rest)).instr? = some k := by
  simp only [decodeDisplaced, hrow, Decoded.instr?]

theorem decodeDisplaced_instr?_of_short (marker : Instr) (t3 : TableId) {bytes : List Byte} (h : bytes.length < 2) :
    (decodeDisplaced marker t3 bytes).instr? = some marker := by
  match bytes with
  | [] => rfl
  | [_] => rfl
  | _ :: _ :: _ => simp at h

end Sys2Proof
end

section
/-! PROOFS. One step of a running decoder is the generic step of 40_decoder.md R130 over its own table set, whichever it
is. What a step does is then said once, of the generic step. -/

namespace Sys2Proof.Machine

variable {T : TableSet} {s : State}

/-! The generic step, branch by branch. -/

theorem Engine.step_of_end (T : TableSet) (hend : s.off ≥ s.size) :
    Engine.step T s = .next (s.stop .endOfStream) := by
  rw [Engine.step, if_pos hend]

theorem Engine.step_of_isLine {m : String} {L : Nat} (hoff : s.off < s.size)
    (hl : IsLine (T.lookup .primary (s.byteAt s.off)) m L) : Engine.step T s = Engine.finish 0 m L s := by
  rw [Engine.step, if_neg (Nat.not_le.mpr hoff)]
  obtain hl | hl := hl <;> rw [hl]

theorem Engine.step_of_prefix {t : TableId} (hoff : s.off < s.size)
    (hl : T.lookup .primary (s.byteAt s.off) = some (.prefixTo t)) : Engine.step T s = Engine.dispatch T t s := by
  rw [Engine.step, if_neg (Nat.not_le.mpr hoff), hl]

theorem Engine.dispatch_of_isLine {t : TableId} {m : String} {L : Nat} (hsel : s.off + 1 < s.size)
    (hl : IsLine (T.lookup t (s.byteAt (s.off + 1))) m L) : Engine.dispatch T t s = Engine.finish 1 m L s := by
  rw [Engine.dispatch, if_neg (Nat.not_le.mpr hsel)]
  obtain hl | hl := hl <;> rw [hl]

theorem Engine.dispatch_of_displaced {t t3 : TableId} (hsel : s.off + 1 < s.size)
    (hl : T.lookup t (s.byteAt (s.off + 1)) = some (.displacedPrefixTo t3)) :
    Engine.dispatch T t s = Engine.displaced T t3 s := by
  rw [Engine.dispatch, if_neg (Nat.not_le.mpr hsel), hl]

theorem Engine.displaced_complete {t3 : TableId} {m : String} {L : Nat} (h : s.off + 3 < s.size)
    (hl : IsLine (T.lookup t3 (s.byteAt (s.off + 3))) m L) :
    Engine.displaced T t3 s = .next (s.afterLine 4 m (.u8 (s.byteAt (s.off + 2)))) := by
  rw [Engine.displaced, if_neg (Nat.not_le.mpr h)]
  obtain hl | hl := hl <;> rw [hl] <;> rfl

theorem Engine.finish_complete {pfx L : Nat} (m : String) (h : s.off + (L + pfx) ≤ s.size) :
    Engine.finish pfx m L s = .next (s.afterLine (L + pfx) m (s.operandAt (s.off + 1 + pfx) L)) := by
  rw [Engine.finish, if_neg (Nat.not_lt.mpr h)]
  rfl

/-! The meaning of an instruction entry is the same branch. -/

/-- Past the first two stop conditions only the third is left. -/
theorem State.lineEffect_of_started {pfx total : Nat} (m : String) (o : Operand) (hoff : s.off < s.size)
    (hsel : pfx = 0 ∨ s.off + 1 < s.size) :
    s.lineEffect pfx total m o =
      if s.off + total > s.size then s.stop .truncatedOperand else (s.emit m o).advance total := by
  have hp : ¬(pfx ≠ 0 ∧ s.off + 1 ≥ s.size) := by omega
  rw [State.lineEffect, State.stopCheck, if_neg (Nat.not_le.mpr hoff), if_neg hp]
  split_ifs <;> rfl

theorem primaryLine_eq_finish (m : String) (L : Nat) (hoff : s.off < s.size) :
    primaryLine m L s = Engine.finish 0 m L s := by
  rw [primaryLine, State.lineEffect_of_started m _ hoff (.inl rfl), apply_ite Host.Outcome.next]
  rfl

theorem prefixedLine_eq_finish (m : String) (L : Nat) (hsel : s.off + 1 < s.size) :
    prefixedLine m L s = Engine.finish 1 m L s := by
  rw [prefixedLine, State.lineEffect_of_started m _ (Nat.lt_of_succ_lt hsel) (.inr hsel), apply_ite Host.Outcome.next]
  rfl

theorem displacedLine_complete (m : String) (h : s.off + 3 < s.size) :
    displacedLine m s = .next (s.afterLine 4 m (.u8 (s.byteAt (s.off + 2)))) := by
  rw [displacedLine, State.lineEffect_complete (by omega) h]
  rfl

theorem entryLine_of_isSecondary {t : TableId} (ht : t.isSecondary = true) (m : String) (L : Nat) (s : State) :
    entryLine t m L s = prefixedLine m L s := by
  cases t with
  | cb | ed | dd | fd => rfl
  | primary | ddcb | fdcb => cases ht

theorem entryLine_of_isThirdLevel {t : TableId} (ht : t.isThirdLevel = true) (m : String) (L : Nat) (s : State) :
    entryLine t m L s = displacedLine m s := by
  cases t with
  | ddcb | fdcb => rfl
  | primary | cb | ed | dd | fd => cases ht

/-- An instruction that is no marker has an instruction entry in the default tables, and means its line. -/
theorem exec_eq_entryLine {i : Instr} {t : TableId} {b : Byte} (hrow : rowAt t b = some i) (hm : i.isMarker = false)
    (s : State) :
    ∃ m L, IsLine ((defaultTables s.placeholder).lookup t b) m L ∧ exec i s = entryLine t m L s := by
  obtain ⟨rfl, rfl⟩ := entry_of_rowAt hrow
  obtain ⟨m, hl⟩ := lookup_isLine s.placeholder hm
  refine ⟨m, _, hl, ?_⟩
  rw [exec_eq_entryEffect]
  obtain hl | hl := hl <;> rw [hl] <;> rfl

/-! The instruction-by-instruction step, row by row. -/

theorem stepStandard_of_instr? {i : Instr} (h : (decode (s.stream.drop s.off)).instr? = some i) :
    stepStandard s = exec i s := by
  unfold stepStandard
  cases hd : decode (s.stream.drop s.off) <;> rw [hd] at h <;> cases h <;> rfl

theorem stepStandard_of_end (hend : s.off ≥ s.size) : stepStandard s = .next (s.stop .endOfStream) := by
  rw [stepStandard, List.drop_eq_nil_of_le hend]
  rfl

theorem State.drop_eq_two_bytes (hsel : s.off + 1 < s.size) :
    s.stream.drop s.off = s.byteAt s.off :: s.byteAt (s.off + 1) :: s.stream.drop (s.off + 2) := by
  rw [State.drop_eq_byteAt_cons (Nat.lt_of_succ_lt hsel), State.drop_eq_byteAt_cons hsel]

theorem stepStandard_of_primary_row {i : Instr} (hoff : s.off < s.size)
    (hrow : rowAt .primary (s.byteAt s.off) = some i) (hm : i.markerTable = none) :
    stepStandard s = Engine.step (defaultTables s.placeholder) s := by
  have htable : i.entry.table = .primary := (entry_of_rowAt hrow).1
  have hd : i.displacedTable = none := displacedTable_eq_none (by rw [htable]; rfl)
  obtain ⟨m, L, hl, hexec⟩ := exec_eq_entryLine hrow (isMarker_eq_false hm hd) s
  have hdecode : (decode (s.stream.drop s.off)).instr? = some i := by
    rw [State.drop_eq_byteAt_cons hoff, decode_of_row hrow hm, decodeOperand_instr?]
  calc stepStandard s = primaryLine m L s := (stepStandard_of_instr? hdecode).trans hexec
    _ = Engine.finish 0 m L s := primaryLine_eq_finish m L hoff
    _ = Engine.step _ s := (Engine.step_of_isLine hoff hl).symm

theorem stepStandard_of_secondary_row {i j : Instr} {t : TableId} (hsel : s.off + 1 < s.size)
    (hrow : rowAt .primary (s.byteAt s.off) = some i) (hm : i.markerTable = some t)
    (hrow' : rowAt t (s.byteAt (s.off + 1)) = some j) (hd : j.displacedTable = none) :
    stepStandard s = Engine.dispatch (defaultTables s.placeholder) t s := by
  have ht : t.isSecondary = true := isSecondary_of_markerTable hm
  have htable : j.entry.table = t := (entry_of_rowAt hrow').1
  have hm' : j.markerTable = none := markerTable_eq_none (htable ▸ ne_primary_of_isSecondary ht)
  obtain ⟨m, L, hl, hexec⟩ := exec_eq_entryLine hrow' (isMarker_eq_false hm' hd) s
  have hdecode : (decode (s.stream.drop s.off)).instr? = some j := by
    rw [State.drop_eq_two_bytes hsel, decode_of_marker hrow hm, decodeSelector_of_row hrow' hd, decodeOperand_instr?]
  calc stepStandard s = entryLine t m L s := (stepStandard_of_instr? hdecode).trans hexec
    _ = prefixedLine m L s := entryLine_of_isSecondary ht m L s
    _ = Engine.finish 1 m L s := prefixedLine_eq_finish m L hsel
    _ = Engine.dispatch _ t s := (Engine.dispatch_of_isLine hsel hl).symm

/-- A displaced marker with a byte after it runs the displaced form. -/
theorem exec_of_displacedTable {j : Instr} {t3 : TableId} (hd : j.displacedTable = some t3)
    (hsel : s.off + 1 < s.size) : exec j s = Engine.displaced (defaultTables s.placeholder) t3 s := by
  rw [exec_eq_entryEffect, lookup_displacedMarker _ hd, entryEffect, displacedRow,
    if_neg (Nat.not_le.mpr (Nat.lt_of_succ_lt hsel)), if_neg (Nat.not_le.mpr hsel)]

/-- A third-level row whose bytes are in the stream runs the displaced form. -/
theorem exec_of_third_level_row {k : Instr} {t3 : TableId} (ht : t3.isThirdLevel = true) (h : s.off + 3 < s.size)
    (hrow : rowAt t3 (s.byteAt (s.off + 3)) = some k) :
    exec k s = Engine.displaced (defaultTables s.placeholder) t3 s := by
  have htable : k.entry.table = t3 := (entry_of_rowAt hrow).1
  have hm : k.isMarker = false := isMarker_eq_false_of_isThirdLevel (htable ▸ ht)
  obtain ⟨m, L, hl, hexec⟩ := exec_eq_entryLine hrow hm s
  calc exec k s = entryLine t3 m L s := hexec
    _ = displacedLine m s := entryLine_of_isThirdLevel ht m L s
    _ = .next (s.afterLine 4 m (.u8 (s.byteAt (s.off + 2)))) := displacedLine_complete m h
    _ = Engine.displaced _ t3 s := (Engine.displaced_complete h hl).symm

theorem stepStandard_of_displaced_marker {i j : Instr} {t t3 : TableId} (hsel : s.off + 1 < s.size)
    (hrow : rowAt .primary (s.byteAt s.off) = some i) (hm : i.markerTable = some t)
    (hrow' : rowAt t (s.byteAt (s.off + 1)) = some j) (hd : j.displacedTable = some t3) :
    stepStandard s = Engine.displaced (defaultTables s.placeholder) t3 s := by
  have hdecode : decode (s.stream.drop s.off) = decodeDisplaced j t3 (s.stream.drop (s.off + 2)) := by
    rw [State.drop_eq_two_bytes hsel, decode_of_marker hrow hm, decodeSelector_of_marker hrow' hd]
  by_cases h : s.off + 3 < s.size
  · obtain ⟨k, hrow'', -⟩ := rowAt_complete t3 (s.byteAt (s.off + 3))
    have hk : (decode (s.stream.drop s.off)).instr? = some k := by
      rw [hdecode, State.drop_eq_byteAt_cons (Nat.lt_of_succ_lt h), State.drop_eq_byteAt_cons h,
        decodeDisplaced_instr? hrow'']
    exact (stepStandard_of_instr? hk).trans (exec_of_third_level_row (isThirdLevel_of_displacedTable hd) h hrow'')
  · have hshort : (s.stream.drop (s.off + 2)).length < 2 := by
      rw [List.length_drop]; unfold State.size at h; omega
    have hj : (decode (s.stream.drop s.off)).instr? = some j := by
      rw [hdecode, decodeDisplaced_instr?_of_short j t3 hshort]
    exact (stepStandard_of_instr? hj).trans (exec_of_displacedTable hd hsel)

/-- On the default tables the two steps agree: at the end of the stream, at a primary row, at a prefix byte alone, and
at the row or the displaced marker that a selector picks. -/
theorem stepStandard_eq_engine_step (s : State) : stepStandard s = Engine.step (defaultTables s.placeholder) s := by
  by_cases hend : s.off ≥ s.size
  · rw [stepStandard_of_end hend, Engine.step_of_end _ hend]
  have hoff : s.off < s.size := Nat.not_le.mp hend
  obtain ⟨i, hrow, htable, hindex⟩ := rowAt_complete .primary (s.byteAt s.off)
  cases hm : i.markerTable with
  | none => exact stepStandard_of_primary_row hoff hrow hm
  | some t =>
    have hl : (defaultTables s.placeholder).lookup .primary (s.byteAt s.off) = some (.prefixTo t) := by
      rw [← htable, ← hindex, lookup_marker _ hm]
    by_cases hlone : s.off + 1 ≥ s.size
    · rw [stepStandard_of_lone_prefix hoff hlone hl, Engine.step_of_lone_prefix hoff hlone hl]
    have hsel : s.off + 1 < s.size := Nat.not_le.mp hlone
    rw [Engine.step_of_prefix hoff hl]
    obtain ⟨j, hrow', htable', hindex'⟩ := rowAt_complete t (s.byteAt (s.off + 1))
    cases hd : j.displacedTable with
    | none => exact stepStandard_of_secondary_row hsel hrow hm hrow' hd
    | some t3 =>
      have hl' := lookup_displacedMarker s.placeholder hd
      rw [htable', hindex'] at hl'
      rw [stepStandard_of_displaced_marker hsel hrow hm hrow' hd, Engine.dispatch_of_displaced hsel hl']

/-- One step of a running decoder, under either choice of tables (40_decoder.md R130). -/
theorem step_eq_engine_step (h : Ready s) : step s = Engine.step s.tableSet s := by
  cases ht : s.tables with
  | standard => rw [step_of_standard h ht, State.tableSet_of_standard ht, stepStandard_eq_engine_step]
  | replacement T => rw [step_of_replacement h ht, State.tableSet_of_replacement ht]

end Sys2Proof.Machine
end

section
/-! PROOFS. The end of the stream (40_decoder.md R131) and the entries `Plain(m, L)` (R137, R139 to R143). -/

namespace Sys2Proof.Machine

variable {s : State}

/-! The end of the stream. -/

theorem step_of_end (h : Ready s) (hend : s.off ≥ s.size) : step s = .next (s.stop .endOfStream) := by
  rw [step_eq_engine_step h, Engine.step_of_end _ hend]

theorem boot_of_tablesOk (h : s.tablesOk = true) (stream : List Byte) :
    boot stream s.tables s.placeholder = .next (State.start stream s.tables s.placeholder) :=
  if_pos h

theorem ready_start (h : s.tablesOk = true) (stream : List Byte) : Ready (State.start stream s.tables s.placeholder) :=
  ⟨rfl, h⟩

theorem decodeStream_nil (h : s.tablesOk = true) : decodeStream s.tables s.placeholder [] = some [] := by
  have hstep := step_of_end (ready_start h []) (le_refl 0)
  rw [decodeStream, boot_of_tablesOk h]
  simp only [List.length_nil, runSteps, hstep]
  rfl

/-- Settles O8: the step at the end is the generic step's first branch, and a run of the empty stream is that one
step. -/
theorem endOfStreamStopsWithNoLine : Obligations.EndOfStreamStopsWithNoLine := by
  refine ⟨fun s h hend => step_of_end h hend, fun s hinv hend => ?_, fun s h => decodeStream_nil h.2⟩
  obtain ⟨hoff, -, -⟩ := hinv
  exact Nat.le_antisymm hoff hend

/-! An entry `Plain(m, L)`. -/

theorem lengthInRange_iff {L : Nat} : lengthInRange L = true ↔ 1 ≤ L ∧ L ≤ 3 := by
  rw [lengthInRange, Bool.and_eq_true, decide_eq_true_eq, decide_eq_true_eq]

theorem lengthInRange_form (f : OperandForm) : lengthInRange f.length = true := by
  cases f <;> rfl

/-- Instruction entries of the default tables have the length of an operand form. -/
theorem lengthInRange_of_isLine_default {ph : String} {t : TableId} {b : Byte} {m : String} {L : Nat}
    (hl : IsLine ((defaultTables ph).lookup t b) m L) : lengthInRange L = true := by
  obtain ⟨i, -, rfl, rfl⟩ := rowAt_complete t b
  obtain ⟨d, hd, hagrees⟩ := lookup_agrees ph i
  have hform : formLengthIs i L = true := by
    obtain hl | hl := hl <;> cases hd.symm.trans hl <;> exact hagrees
  obtain rfl : i.entry.form.length = L := beq_iff_eq.mp hform
  exact lengthInRange_form _

/-- A well-formed table set holds lengths 1 to 3 only (30_encoding.md R97 WF2, WF4, WF6). -/
theorem lengthInRange_of_isLine_wellFormed {T : TableSet} (h : T.wellFormed = true) {t : TableId} {b : Byte}
    {m : String} {L : Nat} (hl : IsLine (T.lookup t b) m L) : lengthInRange L = true := by
  cases t with
  | primary => obtain hl | hl := hl <;> exact primaryForm_of_lookup h hl
  | cb | ed | dd | fd => obtain hl | hl := hl <;> exact secondaryForm_of_lookup h rfl hl
  | ddcb | fdcb =>
    obtain rfl : L = 2 := by obtain hl | hl := hl <;> exact beq_iff_eq.mp (thirdLevelForm_of_lookup h rfl hl)
    rfl

theorem length_of_isLine (h : Ready s) {t : TableId} {b : Byte} {m : String} {L : Nat}
    (hl : IsLine (s.tableSet.lookup t b) m L) : 1 ≤ L ∧ L ≤ 3 := by
  obtain ⟨-, hok⟩ := h
  apply lengthInRange_iff.mp
  cases ht : s.tables with
  | standard =>
    rw [State.tableSet_of_standard ht] at hl
    exact lengthInRange_of_isLine_default hl
  | replacement T =>
    rw [State.tableSet_of_replacement ht] at hl
    simp only [State.tablesOk, ht] at hok
    exact lengthInRange_of_isLine_wellFormed hok hl

theorem step_of_primary_entry (h : Ready s) {m : String} {L : Nat} (hoff : s.off < s.size)
    (hl : IsLine (s.tableSet.lookup .primary (s.byteAt s.off)) m L) (hfits : s.off + L ≤ s.size) :
    step s = .next (s.afterLine L m (s.operandAt (s.off + 1) L)) := by
  rw [step_eq_engine_step h, Engine.step_of_isLine hoff hl, Engine.finish_complete m hfits]
  rfl

theorem step_of_secondary_entry (h : Ready s) {t : TableId} {m : String} {L : Nat} (hsel : s.off + 1 < s.size)
    (hp : s.tableSet.lookup .primary (s.byteAt s.off) = some (.prefixTo t))
    (hl : IsLine (s.tableSet.lookup t (s.byteAt (s.off + 1))) m L) (hfits : s.off + (L + 1) ≤ s.size) :
    step s = .next (s.afterLine (L + 1) m (s.operandAt (s.off + 2) L)) := by
  rw [step_eq_engine_step h, Engine.step_of_prefix (Nat.lt_of_succ_lt hsel) hp, Engine.dispatch_of_isLine hsel hl,
    Engine.finish_complete m hfits]

/-- The operand by the length of the entry (40_decoder.md R139, R140, R141). -/
theorem State.operandAt_by_length (s : State) (j L : Nat) :
    (L = 1 → s.operandAt j L = .none) ∧ (L = 2 → s.operandAt j L = .u8 (s.byteAt j)) ∧
    (L = 3 → s.operandAt j L = .u16 (word16 (s.byteAt j) (s.byteAt (j + 1)))) := by
  refine ⟨?_, ?_, ?_⟩ <;> rintro rfl <;> rfl

/-- Settles O10: both kinds of entry end in the generic step's last branch, whose operand is read right after the
opcode byte or after the selector. -/
theorem entryStepEmitsLineAndAdvances : Obligations.EntryStepEmitsLineAndAdvances := by
  refine ⟨fun s m L h hl hfits => ?_, fun s t m L h hp hl hfits => ?_⟩
  · obtain ⟨hpos, hmax⟩ := length_of_isLine h hl
    have hstep := step_of_primary_entry h (by omega) hl hfits
    exact ⟨hpos, hmax, _, hstep, s.operandAt_by_length (s.off + 1) L⟩
  · obtain ⟨hpos, hmax⟩ := length_of_isLine h hl
    have hstep := step_of_secondary_entry h (by omega) hp hl hfits
    exact ⟨by omega, by omega, _, hstep, s.operandAt_by_length (s.off + 2) L⟩

end Sys2Proof.Machine
end

section
/-! PROOFS. The listing (40_decoder.md R145). -/

namespace Sys2Proof.Machine

theorem listing_eq_join (lines : List DecodedLine) : listing lines = String.join (lines.map DecodedLine.text) := by
  induction lines with
  | nil => rfl
  | cons l ls ih => rw [listing, ih, List.map_cons, String.join_cons]

theorem listing_append (before after : List DecodedLine) :
    listing (before ++ after) = listing before ++ listing after := by
  simp only [listing_eq_join, List.map_append, String.join_append]

@[simp] theorem length_hexDigits (k n : Nat) : (hexDigits k n).length = k := by
  induction k generalizing n with
  | zero => rfl
  | succ k ih => rw [hexDigits, List.length_append, ih, List.length_singleton]

@[simp] theorem length_hex4 (w : Word) : (hex4 w).length = 4 := by
  rw [hex4, String.length_ofList, length_hexDigits]

/-- A line has at least its four address digits and its LF. -/
theorem DecodedLine.five_le_length_text (l : DecodedLine) : 5 ≤ l.text.length := by
  have hlf : "\n".length = 1 := rfl
  simp only [DecodedLine.text, String.length_append, length_hex4, hlf]
  omega

theorem DecodedLine.text_ne_of_short (l : DecodedLine) {t : String} (ht : t.length < 5) : l.text ≠ t := by
  rintro rfl
  exact absurd l.five_le_length_text (Nat.not_le.mpr ht)

/-- Settles O46: the listing is the library's join of the texts, and a line's text is longer than one LF. -/
theorem listingConcatenatesLineTexts : Obligations.ListingConcatenatesLineTexts :=
  ⟨rfl, listing_eq_join, listing_append, fun l =>
    ⟨l.text_ne_of_short (by decide), l.text_ne_of_short (by decide)⟩⟩

end Sys2Proof.Machine
end

section
/-! PROOFS. Reset, and `decode(bytes)` as one reset and one run (70_reset_and_hazards.md R300). -/

namespace Sys2Proof.Machine

variable {s : State}

theorem boot_eq_restart (h : s.tablesOk = true) : boot s.stream s.tables s.placeholder = .next s.restart :=
  boot_of_tablesOk h s.stream

theorem decodeStream_eq_run_restart (h : s.tablesOk = true) :
    decodeStream s.tables s.placeholder s.stream = some (runSteps (s.size + 1) s.restart).out := by
  rw [decodeStream, boot_eq_restart h, State.size]

/-- Settles O1: the reset values are those of the start of a run, and boot on the stream and the tables of a state is
its reset. -/
theorem resetStartsRunOnSameStream : Obligations.ResetStartsRunOnSameStream := by
  refine ⟨fun s => ?_, ⟨rfl, rfl, rfl, rfl⟩, fun s h => decodeStream_eq_run_restart h⟩
  exact ⟨s.restart_off, s.restart_addr, s.restart_run, s.restart_out, s.restart_stream, s.restart_tables,
    s.restart_placeholder⟩

end Sys2Proof.Machine
end

section
/-! PROOFS. The default tables are one table set with the placeholder text filled in, and pass all seven checks
(30_encoding.md R97). -/

namespace Sys2Proof

/-- A descriptor with the given text where it is a placeholder (92_eei_decisions.md D8). -/
def Descriptor.withText (ph : String) : Descriptor → Descriptor
  | .placeholder _ L => .placeholder ph L
  | .plain m L => .plain m L
  | .prefixTo t => .prefixTo t
  | .displacedPrefixTo t => .displacedPrefixTo t

variable (ph : String)

@[simp] theorem Descriptor.primaryForm_withText (d : Descriptor) : (withText ph d).primaryForm = d.primaryForm := by
  cases d <;> rfl

@[simp] theorem Descriptor.secondaryForm_withText (d : Descriptor) :
    (withText ph d).secondaryForm = d.secondaryForm := by
  cases d <;> rfl

@[simp] theorem Descriptor.thirdLevelForm_withText (d : Descriptor) :
    (withText ph d).thirdLevelForm = d.thirdLevelForm := by
  cases d <;> rfl

@[simp] theorem Descriptor.withText_beq_prefixTo (d : Descriptor) (t : TableId) :
    (withText ph d == .prefixTo t) = (d == .prefixTo t) := by
  cases d <;> rfl

@[simp] theorem Descriptor.withText_beq_displacedPrefixTo (d : Descriptor) (t : TableId) :
    (withText ph d == .displacedPrefixTo t) = (d == .displacedPrefixTo t) := by
  cases d <;> rfl

theorem Descriptor.textOk_withText {ph : String} (hph : mnemonicText ph = true) {d : Descriptor}
    (h : d.textOk = true) : (withText ph d).textOk = true := by
  cases d with
  | placeholder => exact hph
  | plain | prefixTo | displacedPrefixTo => exact h

/-- A table set with the given text at its placeholders. -/
def TableSet.withText (ph : String) (T : TableSet) : TableSet where
  primary := T.primary.map (Descriptor.withText ph)
  cb := T.cb.map (Descriptor.withText ph)
  ed := T.ed.map (Descriptor.withText ph)
  dd := T.dd.map (Descriptor.withText ph)
  fd := T.fd.map (Descriptor.withText ph)
  ddcb := T.ddcb.map (Descriptor.withText ph)
  fdcb := T.fdcb.map (Descriptor.withText ph)

theorem TableSet.table_withText (T : TableSet) (t : TableId) :
    (T.withText ph).table t = (T.table t).map (Descriptor.withText ph) := by
  cases t <;> rfl

theorem TableSet.secondaryEntries_withText (T : TableSet) :
    (T.withText ph).secondaryEntries = T.secondaryEntries.map (Descriptor.withText ph) := by
  simp only [secondaryEntries, withText, List.map_append]

/-- Text that is a mnemonic, filled in at the placeholders, breaks no check. -/
theorem TableSet.passes_withText {ph : String} (hph : mnemonicText ph = true) {T : TableSet} {c : WfCheck}
    (h : T.passes c = true) : (T.withText ph).passes c = true := by
  cases c with
  | complete => simpa [passes, withText] using h
  | primaryForms => simpa [passes, withText] using h
  | prefixOneToOne => simpa [passes, withText, List.count, List.countP_map, Function.comp_def] using h
  | secondaryForms => simpa [passes, secondaryEntries_withText] using h
  | displacedOneToOne =>
    simpa [passes, secondaryEntries_withText, List.count, List.countP_map, Function.comp_def] using h
  | thirdLevelForms => simpa [passes, withText] using h
  | mnemonicTexts =>
    have htexts := List.all_eq_true.mp h
    rw [passes, secondaryEntries_withText]
    simp only [withText, ← List.map_append, List.all_map]
    exact List.all_eq_true.mpr fun d hd => Descriptor.textOk_withText hph (htexts d hd)

end Sys2Proof

namespace Sys2Proof.Machine

variable (ph : String)

theorem defaultTables_eq_withText : defaultTables ph = (defaultTables "NOP").withText ph := by
  simp only [defaultTables, TableSet.withText, primaryEntries, cbEntries, edEntries, ddEntries, fdEntries, ddcbEntries,
    fdcbEntries, List.map_flatten]
  rfl

theorem defaultTables_table (t : TableId) :
    (defaultTables ph).table t = ((defaultTables "NOP").table t).map (Descriptor.withText ph) := by
  rw [defaultTables_eq_withText, TableSet.table_withText]

/-- Settles O16: the tables with the text `NOP` pass, by evaluation, and the checks do not depend on the text but that
it is a mnemonic. -/
theorem defaultTablesPassAllChecks : Obligations.DefaultTablesPassAllChecks := by
  intro ph hph c
  have hnop : (defaultTables "NOP").passes c = true := by cases c <;> decide +kernel
  rw [defaultTables_eq_withText]
  exact TableSet.passes_withText hph hnop

end Sys2Proof.Machine
end

section
/-! PROOFS. One step: when there is one, and everything it can be (40_decoder.md R130, R146; 60_exceptions.md R200,
R205). -/

namespace Sys2Proof.Machine

variable {s t : State}

/-! The state after one line, field by field. -/

section
variable (s : State) (n : Nat) (m : String) (o : Operand)

@[simp] theorem State.afterLine_stream : (s.afterLine n m o).stream = s.stream := rfl
@[simp] theorem State.afterLine_tables : (s.afterLine n m o).tables = s.tables := rfl
@[simp] theorem State.afterLine_placeholder : (s.afterLine n m o).placeholder = s.placeholder := rfl
@[simp] theorem State.afterLine_off : (s.afterLine n m o).off = s.off + n := rfl
@[simp] theorem State.afterLine_addr : (s.afterLine n m o).addr = s.addr + BitVec.ofNat 16 n := rfl
@[simp] theorem State.afterLine_run : (s.afterLine n m o).run = s.run := rfl
@[simp] theorem State.afterLine_out : (s.afterLine n m o).out = s.out ++ [⟨s.addr, m, o⟩] := rfl
@[simp] theorem State.afterLine_size : (s.afterLine n m o).size = s.size := rfl

end

theorem Ready.afterLine (h : Ready s) (n : Nat) (m : String) (o : Operand) : Ready (s.afterLine n m o) := h

/-! Accepted tables. -/

theorem TableSet.wellFormed_iff {T : TableSet} : T.wellFormed = true ↔ ∀ c, T.passes c = true := by
  refine ⟨fun h c => List.all_eq_true.mp h c ?_, fun h => List.all_eq_true.mpr fun c _ => h c⟩
  cases c <;> decide

theorem Ready.wellFormed (h : Ready s) : s.tableSet.wellFormed = true := by
  obtain ⟨-, hok⟩ := h
  cases ht : s.tables with
  | standard =>
    simp only [State.tablesOk, ht] at hok
    rw [State.tableSet_of_standard ht]
    exact TableSet.wellFormed_iff.mpr (defaultTablesPassAllChecks s.placeholder hok)
  | replacement T =>
    simp only [State.tablesOk, ht] at hok
    rwa [State.tableSet_of_replacement ht]

/-! The outcome of a step. -/

theorem step_of_stopped {r : StopReason} (hrun : s.run = .stopped r) (hok : s.tablesOk = true) :
    step s = .refused .runStopped := by
  rw [step, if_pos hok, hrun]

theorem step_of_not_tablesOk (hok : s.tablesOk = false) : step s = .refused .illFormedTables := by
  rw [step, if_neg (Bool.not_eq_true _ ▸ hok)]

/-- Only a running decoder with accepted tables steps. -/
theorem ready_of_step (h : step s = .next t) : Ready s := by
  cases hok : s.tablesOk with
  | false => rw [step_of_not_tablesOk hok] at h; cases h
  | true =>
    cases hrun : s.run with
    | running => exact ⟨hrun, hok⟩
    | stopped r => rw [step_of_stopped hrun hok] at h; cases h

theorem step_stopsOrEmits (h : Ready s) : StopsOrEmits s (step s) :=
  step_eq_engine_step h ▸ Engine.step_stopsOrEmits h.wellFormed s

/-- Everything a step does to the state: it stops, or emits one line of 1 to 4 bytes that lie in the stream. -/
theorem step_cases (h : step s = .next t) :
    (∃ r, t = s.stop r) ∨ ∃ n m o, 1 ≤ n ∧ n ≤ 4 ∧ s.off + n ≤ s.size ∧ t = s.afterLine n m o := by
  obtain ⟨r, hr⟩ | ⟨n, m, o, hpos, hmax, hfits, hr⟩ := step_stopsOrEmits (ready_of_step h)
  · cases h.symm.trans hr
    exact .inl ⟨r, rfl⟩
  · cases h.symm.trans hr
    exact .inr ⟨n, m, o, hpos, hmax, hfits, rfl⟩

/-! The invariant of a run. -/

theorem Inv.stop (h : Inv s) (r : StopReason) : Inv (s.stop r) := h

theorem Inv.afterLine (h : Inv s) {n : Nat} (m : String) (o : Operand) (hpos : 1 ≤ n) (hfits : s.off + n ≤ s.size) :
    Inv (s.afterLine n m o) := by
  obtain ⟨-, haddr, hout⟩ := h
  refine ⟨hfits, ?_, ?_⟩
  · rw [State.afterLine_addr, State.afterLine_off, haddr, BitVec.ofNat_add]
  · rw [State.afterLine_out, State.afterLine_off, List.length_append, List.length_singleton]
    omega

theorem inv_start (stream : List Byte) (tables : TableChoice) (placeholder : String) :
    Inv (State.start stream tables placeholder) :=
  ⟨Nat.zero_le _, rfl, Nat.le_refl 0⟩

/-- Settles O2: reset is the start of a run on the empty stream. -/
theorem resetSatisfiesInvariant : Obligations.ResetSatisfiesInvariant :=
  ⟨inv_start _ _ _, inv_start⟩

/-- Settles O3: a stop moves nothing the invariant speaks of, and a line's `n ≥ 1` bytes lie in the stream, move both
registers by `n` and pay for one line. -/
theorem invariantKeptByEveryStep : Obligations.InvariantKeptByEveryStep := by
  intro s t hinv hstep
  obtain ⟨r, rfl⟩ | ⟨n, m, o, hpos, -, hfits, rfl⟩ := step_cases hstep
  · exact hinv.stop r
  · exact hinv.afterLine m o hpos hfits

/-- Settles O13: of the two things a step can do, only the stop leaves the run stopped. -/
theorem stopChangesOnlyRunState : Obligations.StopChangesOnlyRunState := by
  intro s t hstep hrun
  obtain ⟨r, rfl⟩ | ⟨n, m, o, -, -, -, rfl⟩ := step_cases hstep
  · exact ⟨r, rfl⟩
  · exact absurd (ready_of_step hstep).1 hrun

/-- Settles O17: both things a step can do are next states. -/
theorem runningStepAnswersNextState : Obligations.RunningStepAnswersNextState := by
  intro s h
  obtain ⟨r, hr⟩ | ⟨n, m, o, -, -, -, hr⟩ := step_stopsOrEmits h
  · exact ⟨_, hr⟩
  · exact ⟨_, hr⟩

/-- Settles O14: a stopped run is not one that steps, and a run goes on only while it is running. -/
theorem stoppedRunHasNoStep : Obligations.StoppedRunHasNoStep := by
  intro s r hrun
  refine ⟨fun t ht => ?_, step_of_stopped hrun, fun k => ?_, s.restart_run⟩
  · obtain ⟨hrunning, -⟩ := ready_of_step ht
    cases hrun.symm.trans hrunning
  · cases k with
    | zero => rfl
    | succ k => rw [runSteps, hrun]

/-- Settles O15: one failed check makes the set ill formed, and both `boot` and `step` ask first. -/
theorem illFormedTablesRefused : Obligations.IllFormedTablesRefused := by
  intro T c hc
  have hT : T.wellFormed = false := by
    rw [← Bool.not_eq_true, TableSet.wellFormed_iff]
    intro h
    cases hc.symm.trans (h c)
  exact ⟨fun stream placeholder => if_neg (Bool.not_eq_true _ ▸ hT), fun s => step_of_not_tablesOk hT⟩

/-- Settles O20: the state's own table set is the default one. -/
theorem standardStepIsTableStep : Obligations.StandardStepIsTableStep := by
  intro s h ht
  rw [step_eq_engine_step h, State.tableSet_of_standard ht]

/-- Settles O21: the decoder names the instruction, and the step of the default tables runs it. -/
theorem stepRunsDecodedInstruction : Obligations.StepRunsDecodedInstruction := by
  intro s i o rest h ht hdecode
  rw [step_of_standard h ht]
  exact stepStandard_of_instr? (by rw [hdecode, Decoded.instr?])

end Sys2Proof.Machine
end

section
/-! PROOFS. Encoding and decoding: everything the decoder makes of bytes, and its round trip with the encoder
(30_encoding.md R81, R90, R95, R96, R99). -/

namespace Sys2Proof

/-! The operand bytes. -/

section
variable {i : Instr}

theorem decodeOperand_of_none (hf : i.entry.form = .none) (bytes : List Byte) :
    decodeOperand i bytes = .instr i .none bytes := by
  match bytes with
  | [] => simp only [decodeOperand, hf]
  | [b] => simp only [decodeOperand, hf]
  | b :: c :: rest => simp only [decodeOperand, hf]

theorem decodeOperand_of_byte (hf : i.entry.form = .byte) (b : Byte) (rest : List Byte) :
    decodeOperand i (b :: rest) = .instr i (.u8 b) rest := by
  cases rest <;> simp only [decodeOperand, hf]

theorem decodeOperand_of_word (hf : i.entry.form = .word) (b c : Byte) (rest : List Byte) :
    decodeOperand i (b :: c :: rest) = .instr i (.u16 (word16 b c)) rest := by
  simp only [decodeOperand, hf]

theorem decodeOperand_of_short {bytes : List Byte} (h : bytes.length + 1 < i.entry.form.length) :
    decodeOperand i bytes = .truncated i .truncatedOperand := by
  cases hf : i.entry.form with
  | none => simp [hf, OperandForm.length] at h
  | byte =>
    match bytes with
    | [] => simp only [decodeOperand, hf]
    | _ :: _ => simp [hf, OperandForm.length] at h
  | word =>
    match bytes with
    | [] => simp only [decodeOperand, hf]
    | [_] => simp only [decodeOperand, hf]
    | _ :: _ :: _ =>
      simp only [hf, OperandForm.length, List.length_cons] at h
      omega

/-- Bytes long enough begin with an operand of the form. -/
theorem exists_operandBytes_append (f : OperandForm) {bytes : List Byte} (h : f.length ≤ bytes.length + 1) :
    ∃ o rest, o.fits f = true ∧ bytes = operandBytes o ++ rest := by
  cases f with
  | none => exact ⟨.none, bytes, rfl, rfl⟩
  | byte =>
    match bytes with
    | [] => simp [OperandForm.length] at h
    | b :: rest => exact ⟨.u8 b, rest, rfl, rfl⟩
  | word =>
    match bytes with
    | [] | [_] => simp [OperandForm.length] at h
    | b :: c :: rest =>
      exact ⟨.u16 (word16 b c), rest, rfl, by rw [operandBytes, lowByte_word16, highByte_word16]; rfl⟩

theorem length_operandBytes {o : Operand} {f : OperandForm} (h : o.fits f = true) :
    (operandBytes o).length + 1 = f.length := by
  match o, f, h with
  | .none, .none, _ => rfl
  | .u8 _, .byte, _ => rfl
  | .u16 _, .word, _ => rfl

theorem decodeOperand_operandBytes {o : Operand} (h : o.fits i.entry.form = true) (rest : List Byte) :
    decodeOperand i (operandBytes o ++ rest) = .instr i o rest := by
  cases hf : i.entry.form with
  | none =>
    rw [hf] at h
    cases o with
    | none => exact decodeOperand_of_none hf rest
    | u8 | u16 => cases h
  | byte =>
    rw [hf] at h
    cases o with
    | u8 v => exact decodeOperand_of_byte hf v rest
    | none | u16 => cases h
  | word =>
    rw [hf] at h
    cases o with
    | u16 v => exact (decodeOperand_of_word hf _ _ rest).trans (by rw [word16_low_high])
    | none | u8 => cases h

/-- Everything the decoder can make of the bytes where an operand is due. -/
theorem decodeOperand_cases (i : Instr) (bytes : List Byte) :
    (bytes.length + 1 < i.entry.form.length ∧ decodeOperand i bytes = .truncated i .truncatedOperand) ∨
    ∃ o rest, o.fits i.entry.form = true ∧ bytes = operandBytes o ++ rest ∧
      decodeOperand i bytes = .instr i o rest := by
  by_cases h : bytes.length + 1 < i.entry.form.length
  · exact .inl ⟨h, decodeOperand_of_short h⟩
  · obtain ⟨o, rest, hfits, rfl⟩ := exists_operandBytes_append i.entry.form (Nat.not_lt.mp h)
    exact .inr ⟨o, rest, hfits, rfl, decodeOperand_operandBytes hfits rest⟩

end

/-! Prefix bytes and the rows they lead to. -/

theorem markerTable_of_row {b : Byte} {i : Instr} (hrow : rowAt .primary b = some i) :
    i.markerTable = prefixTable b := by
  obtain ⟨htable, hindex⟩ := entry_of_rowAt hrow
  rw [Instr.markerTable, if_pos htable, hindex]

theorem exists_prefixTable {t : TableId} (ht : t.isSecondary = true) : ∃ p, prefixTable p = some t := by
  cases t with
  | cb => exact ⟨0xCB, rfl⟩
  | ed => exact ⟨0xED, rfl⟩
  | dd => exact ⟨0xDD, rfl⟩
  | fd => exact ⟨0xFD, rfl⟩
  | primary | ddcb | fdcb => cases ht

theorem decode_of_prefixed_row {p sel : Byte} {t : TableId} {j : Instr} (hp : prefixTable p = some t)
    (hrow : rowAt t sel = some j) (hd : j.displacedTable = none) (rest : List Byte) :
    decode (p :: sel :: rest) = decodeOperand j rest := by
  obtain ⟨i, hmarker, -⟩ := rowAt_complete .primary p
  rw [decode_of_marker hmarker ((markerTable_of_row hmarker).trans hp), decodeSelector_of_row hrow hd]

/-- An index prefix byte and the third-level table of its displaced form (30_encoding.md R85). -/
def LeadsToDisplaced (p : Byte) (t3 : TableId) : Prop := (p = 0xDD ∧ t3 = .ddcb) ∨ (p = 0xFD ∧ t3 = .fdcb)

theorem decode_of_displaced_row {p x : Byte} {t3 : TableId} {k : Instr} (hp : LeadsToDisplaced p t3)
    (hrow : rowAt t3 x = some k) (d : Byte) (rest : List Byte) :
    decode (p :: 0xCB :: d :: x :: rest) = .instr k (.u8 d) rest := by
  have hmarker : ∃ j, decode (p :: 0xCB :: d :: x :: rest) = decodeDisplaced j t3 (d :: x :: rest) := by
    obtain ⟨rfl, rfl⟩ | ⟨rfl, rfl⟩ := hp
    · exact ⟨.ddCB_PREFIX_DDCB, rfl⟩
    · exact ⟨.fdCB_PREFIX_FDCB, rfl⟩
  obtain ⟨j, hj⟩ := hmarker
  simp only [hj, decodeDisplaced, hrow]

theorem displacedTable_eq_some {j : Instr} {t3 : TableId} (h : j.displacedTable = some t3) :
    j.entry.index = 0xCB ∧ ((j.entry.table = .dd ∧ t3 = .ddcb) ∨ (j.entry.table = .fd ∧ t3 = .fdcb)) := by
  rw [Instr.displacedTable, Option.ite_none_right_eq_some] at h
  obtain ⟨hindex, h⟩ := h
  refine ⟨hindex, ?_⟩
  cases ht : j.entry.table <;> rw [ht] at h <;> cases h
  · exact .inl ⟨rfl, rfl⟩
  · exact .inr ⟨rfl, rfl⟩

theorem eq_of_prefixTable_dd {p : Byte} (h : prefixTable p = some .dd) : p = 0xDD := by
  unfold prefixTable at h
  split_ifs at h with _ hp <;> cases h
  exact hp

theorem eq_of_prefixTable_fd {p : Byte} (h : prefixTable p = some .fd) : p = 0xFD := by
  unfold prefixTable at h
  split_ifs at h with _ _ _ hp <;> cases h
  exact hp

/-- The two bytes before a displacement. -/
theorem leadsToDisplaced_of_marker {p sel : Byte} {t t3 : TableId} {j : Instr} (hp : prefixTable p = some t)
    (hrow : rowAt t sel = some j) (hd : j.displacedTable = some t3) : sel = 0xCB ∧ LeadsToDisplaced p t3 := by
  obtain ⟨rfl, rfl⟩ := entry_of_rowAt hrow
  obtain ⟨hindex, ⟨ht, rfl⟩ | ⟨ht, rfl⟩⟩ := displacedTable_eq_some hd
  · exact ⟨hindex, .inl ⟨eq_of_prefixTable_dd (ht ▸ hp), rfl⟩⟩
  · exact ⟨hindex, .inr ⟨eq_of_prefixTable_fd (ht ▸ hp), rfl⟩⟩

/-! Everything the decoder can make of bytes. -/

/-- The ways the decoder goes: no bytes; a row of the primary table; a prefix byte alone; a row of a secondary table;
the displaced form, cut short or whole (30_encoding.md R90). -/
inductive Decodes : List Byte → Decoded → Prop
  | empty : Decodes [] .endOfStream
  | row {b : Byte} {i : Instr} (hrow : rowAt .primary b = some i) (hm : i.markerTable = none) (rest : List Byte) :
      Decodes (b :: rest) (decodeOperand i rest)
  | lonePrefix {p : Byte} {i : Instr} {t : TableId} (hrow : rowAt .primary p = some i)
      (hp : prefixTable p = some t) : Decodes [p] (.truncated i .truncatedPrefix)
  | prefixedRow {p sel : Byte} {t : TableId} {j : Instr} (hp : prefixTable p = some t) (hrow : rowAt t sel = some j)
      (hd : j.displacedTable = none) (rest : List Byte) : Decodes (p :: sel :: rest) (decodeOperand j rest)
  | displacedShort {p sel : Byte} {t t3 : TableId} {j : Instr} (hp : prefixTable p = some t)
      (hrow : rowAt t sel = some j) (hd : j.displacedTable = some t3) (rest : List Byte) (hshort : rest.length < 2) :
      Decodes (p :: sel :: rest) (.truncated j .truncatedOperand)
  | displacedRow {p x : Byte} {t3 : TableId} {k : Instr} (hp : LeadsToDisplaced p t3) (hrow : rowAt t3 x = some k)
      (d : Byte) (rest : List Byte) : Decodes (p :: 0xCB :: d :: x :: rest) (.instr k (.u8 d) rest)

theorem decodes_displaced {p sel : Byte} {t t3 : TableId} {j : Instr} (hp : prefixTable p = some t)
    (hrow : rowAt t sel = some j) (hd : j.displacedTable = some t3) (bytes : List Byte) :
    Decodes (p :: sel :: bytes) (decodeDisplaced j t3 bytes) := by
  match bytes with
  | [] => exact .displacedShort hp hrow hd [] (by simp)
  | [d] => exact .displacedShort hp hrow hd [d] (by simp)
  | d :: x :: rest =>
    obtain ⟨rfl, hdisp⟩ := leadsToDisplaced_of_marker hp hrow hd
    obtain ⟨k, hk, -⟩ := rowAt_complete t3 x
    simp only [decodeDisplaced, hk]
    exact .displacedRow hdisp hk d rest

theorem decodes (bytes : List Byte) : Decodes bytes (decode bytes) := by
  match bytes with
  | [] => exact .empty
  | b :: bytes =>
    obtain ⟨i, hi, -⟩ := rowAt_complete .primary b
    cases hm : i.markerTable with
    | none => exact decode_of_row hi hm bytes ▸ .row hi hm bytes
    | some t =>
      have hp : prefixTable b = some t := (markerTable_of_row hi).symm.trans hm
      rw [decode_of_marker hi hm]
      match bytes with
      | [] => exact .lonePrefix hi hp
      | sel :: bytes =>
        obtain ⟨j, hj, -⟩ := rowAt_complete t sel
        cases hd : j.displacedTable with
        | none => exact decodeSelector_of_row hj hd bytes ▸ .prefixedRow hp hj hd bytes
        | some t3 => exact decodeSelector_of_marker hj hd bytes ▸ decodes_displaced hp hj hd bytes

/-! The encoder by the kind of table. -/

theorem encode_of_primary {i : Instr} (ht : i.entry.table = .primary) (o : Operand) :
    encode i o = i.entry.index :: operandBytes o := by
  simp only [encode, encodeEntry, ht, List.singleton_append]

theorem encode_of_prefixed {p : Byte} {i : Instr} (hp : prefixTable p = some i.entry.table) (o : Operand) :
    encode i o = p :: i.entry.index :: operandBytes o := by
  unfold prefixTable at hp
  split_ifs at hp with hb hb hb hb <;> cases hb <;>
    simp only [encode, encodeEntry, ← Option.some.inj hp, List.cons_append, List.nil_append]

theorem encode_of_displaced {p : Byte} {k : Instr} (hp : LeadsToDisplaced p k.entry.table) (d : Byte) :
    encode k (.u8 d) = [p, 0xCB, d, k.entry.index] := by
  obtain ⟨rfl, ht⟩ | ⟨rfl, ht⟩ := hp <;>
    simp only [encode, encodeEntry, ht, operandBytes, List.cons_append, List.nil_append]

theorem exists_leadsToDisplaced {t : TableId} (ht : t.isThirdLevel = true) : ∃ p, LeadsToDisplaced p t := by
  cases t with
  | ddcb => exact ⟨0xDD, .inl ⟨rfl, rfl⟩⟩
  | fdcb => exact ⟨0xFD, .inr ⟨rfl, rfl⟩⟩
  | primary | cb | ed | dd | fd => cases ht

theorem isThirdLevel_of_leadsToDisplaced {p : Byte} {t : TableId} (h : LeadsToDisplaced p t) :
    t.isThirdLevel = true := by
  obtain ⟨-, rfl⟩ | ⟨-, rfl⟩ := h <;> rfl

/-- An instruction of a third-level table carries the displacement byte (30_encoding.md R86). -/
theorem form_of_isThirdLevel {i : Instr} (ht : i.entry.table.isThirdLevel = true) : i.entry.form = .byte := by
  obtain ⟨m, hl⟩ := Machine.lookup_isLine "NOP" (isMarker_eq_false_of_isThirdLevel ht)
  have hwf : (Machine.defaultTables "NOP").wellFormed = true :=
    Machine.TableSet.wellFormed_iff.mpr (Machine.defaultTablesPassAllChecks "NOP" (by decide))
  have hlength : i.entry.form.length = 2 := by
    obtain hl | hl := hl <;> exact beq_iff_eq.mp (Machine.thirdLevelForm_of_lookup hwf ht hl)
  cases hf : i.entry.form with
  | byte => rfl
  | none | word => rw [hf] at hlength; cases hlength

theorem prefixBytes_of_isSecondary {t : TableId} (h : t.isSecondary = true) : t.prefixBytes = 1 := by
  cases t with
  | cb | ed | dd | fd => rfl
  | primary | ddcb | fdcb => cases h

theorem prefixBytes_of_isThirdLevel {t : TableId} (h : t.isThirdLevel = true) : t.prefixBytes = 2 := by
  cases t with
  | ddcb | fdcb => rfl
  | primary | cb | ed | dd | fd => cases h

/-- The three kinds of tables (10_state.md R31). -/
theorem TableId.kind (t : TableId) : t = .primary ∨ t.isSecondary = true ∨ t.isThirdLevel = true := by
  cases t <;> decide

theorem Instr.wellFormed_iff {i : Instr} {o : Operand} :
    i.wellFormed o = true ↔ i.isMarker = false ∧ o.fits i.entry.form = true := by
  rw [Instr.wellFormed, Bool.and_eq_true, Bool.not_eq_true']

theorem Instr.isMarker_eq_false_iff {i : Instr} :
    i.isMarker = false ↔ i.markerTable = none ∧ i.displacedTable = none := by
  rw [Instr.isMarker, Bool.or_eq_false_iff, Option.isSome_eq_false_iff, Option.isSome_eq_false_iff,
    Option.isNone_iff_eq_none, Option.isNone_iff_eq_none]

/-! The round trip. -/

theorem eq_u8_of_fits_byte {o : Operand} (h : o.fits .byte = true) : ∃ d, o = .u8 d := by
  cases o with
  | u8 d => exact ⟨d, rfl⟩
  | none | u16 => cases h

theorem decode_encode {i : Instr} {o : Operand} (h : i.wellFormed o = true) (rest : List Byte) :
    decode (encode i o ++ rest) = .instr i o rest := by
  obtain ⟨hmarker, hfits⟩ := Instr.wellFormed_iff.mp h
  obtain ⟨hm, hd⟩ := Instr.isMarker_eq_false_iff.mp hmarker
  have hrow := rowAt_entry i
  obtain ht | ht | ht := i.entry.table.kind
  · rw [encode_of_primary ht, List.cons_append, decode_of_row (ht ▸ hrow) hm, decodeOperand_operandBytes hfits]
  · obtain ⟨p, hp⟩ := exists_prefixTable ht
    rw [encode_of_prefixed hp, List.cons_append, List.cons_append, decode_of_prefixed_row hp hrow hd,
      decodeOperand_operandBytes hfits]
  · obtain ⟨p, hp⟩ := exists_leadsToDisplaced ht
    obtain ⟨d, rfl⟩ := eq_u8_of_fits_byte (form_of_isThirdLevel ht ▸ hfits)
    rw [encode_of_displaced hp]
    exact decode_of_displaced_row hp hrow d rest

theorem length_encode {i : Instr} {o : Operand} (hfits : o.fits i.entry.form = true) :
    (encode i o).length = i.totalLength := by
  have hlength := length_operandBytes hfits
  rw [Instr.totalLength]
  obtain ht | ht | ht := i.entry.table.kind
  · rw [encode_of_primary ht, List.length_cons, hlength, ht]
    rfl
  · obtain ⟨p, hp⟩ := exists_prefixTable ht
    rw [encode_of_prefixed hp, List.length_cons, List.length_cons, hlength, prefixBytes_of_isSecondary ht]
  · obtain ⟨p, hp⟩ := exists_leadsToDisplaced ht
    obtain ⟨d, rfl⟩ := eq_u8_of_fits_byte (form_of_isThirdLevel ht ▸ hfits)
    rw [encode_of_displaced hp, prefixBytes_of_isThirdLevel ht, form_of_isThirdLevel ht]
    rfl

/-- Settles O22: the bytes begin with the index byte, with prefix and index byte, or with prefix, CB, displacement and
index byte, as the table is primary, secondary or third-level, and the decoder follows them to the instruction's row. -/
theorem encodedInstructionDecodesToItself : Obligations.EncodedInstructionDecodesToItself :=
  fun _ _ rest h => ⟨decode_encode h rest, length_encode (Instr.wellFormed_iff.mp h).2⟩

/-- A decoded operand fits, and the bytes begin with it. -/
theorem decodeOperand_eq_instr {i j : Instr} {o : Operand} {bytes rest : List Byte}
    (h : decodeOperand i bytes = .instr j o rest) :
    i = j ∧ o.fits j.entry.form = true ∧ bytes = operandBytes o ++ rest := by
  obtain ⟨-, hcut⟩ | ⟨o', rest', hfits, hbytes, hwhole⟩ := decodeOperand_cases i bytes
  · cases hcut.symm.trans h
  · cases hwhole.symm.trans h
    exact ⟨rfl, hfits, hbytes⟩

theorem isMarker_eq_false_of_row {b : Byte} {i : Instr} (hrow : rowAt .primary b = some i)
    (hm : i.markerTable = none) : i.isMarker = false :=
  isMarker_eq_false hm (displacedTable_eq_none (by rw [(entry_of_rowAt hrow).1]; rfl))

theorem isMarker_eq_false_of_prefixed_row {p sel : Byte} {t : TableId} {j : Instr} (hp : prefixTable p = some t)
    (hrow : rowAt t sel = some j) (hd : j.displacedTable = none) : j.isMarker = false := by
  have ht : j.entry.table ≠ .primary :=
    (entry_of_rowAt hrow).1 ▸ ne_primary_of_isSecondary (isSecondary_of_prefixTable hp)
  exact isMarker_eq_false (markerTable_eq_none ht) hd

theorem eq_encode_of_decodes {bytes rest : List Byte} {dec : Decoded} {i : Instr} {o : Operand}
    (h : Decodes bytes dec) (hdec : dec = .instr i o rest) : i.wellFormed o = true ∧ bytes = encode i o ++ rest := by
  cases h with
  | empty | lonePrefix | displacedShort => cases hdec
  | row hrow hm =>
    obtain ⟨rfl, hfits, rfl⟩ := decodeOperand_eq_instr hdec
    obtain ⟨htable, rfl⟩ := entry_of_rowAt hrow
    exact ⟨Instr.wellFormed_iff.mpr ⟨isMarker_eq_false_of_row hrow hm, hfits⟩,
      by rw [encode_of_primary htable, List.cons_append]⟩
  | prefixedRow hp hrow hd =>
    obtain ⟨rfl, hfits, rfl⟩ := decodeOperand_eq_instr hdec
    obtain ⟨rfl, rfl⟩ := entry_of_rowAt hrow
    exact ⟨Instr.wellFormed_iff.mpr ⟨isMarker_eq_false_of_prefixed_row hp hrow hd, hfits⟩,
      by rw [encode_of_prefixed hp, List.cons_append, List.cons_append]⟩
  | displacedRow hp hrow d =>
    cases hdec
    obtain ⟨rfl, rfl⟩ := entry_of_rowAt hrow
    have ht := isThirdLevel_of_leadsToDisplaced hp
    exact ⟨Instr.wellFormed_iff.mpr ⟨isMarker_eq_false_of_isThirdLevel ht, form_of_isThirdLevel ht ▸ rfl⟩,
      by rw [encode_of_displaced hp]; rfl⟩

/-- Settles O23: three of the ways the decoder goes end in an instruction, and the bytes read on each are those the
encoder writes for its kind of table. -/
theorem decodedInstructionEncodesToItsBytes : Obligations.DecodedInstructionEncodesToItsBytes :=
  fun bytes _ _ _ h => eq_encode_of_decodes (decodes bytes) h

/-- What follows an instruction plays no part in its decoding. -/
theorem decode_append {bytes rest : List Byte} {i : Instr} {o : Operand} (h : decode bytes = .instr i o rest)
    (more : List Byte) : decode (bytes ++ more) = .instr i o (rest ++ more) := by
  obtain ⟨hwf, rfl⟩ := eq_encode_of_decodes (decodes bytes) h
  rw [List.append_assoc, decode_encode hwf]

/-! No byte sequence is illegal. -/

/-- Bytes name an instruction, whole or cut short. -/
theorem instr?_of_decodes {bytes : List Byte} {dec : Decoded} (h : Decodes bytes dec) :
    (bytes = [] ∧ dec = .endOfStream) ∨ (bytes ≠ [] ∧ ∃ i, dec.instr? = some i) := by
  cases h with
  | empty => exact .inl ⟨rfl, rfl⟩
  | row | prefixedRow => exact .inr ⟨List.cons_ne_nil _ _, _, decodeOperand_instr? _ _⟩
  | lonePrefix | displacedShort | displacedRow => exact .inr ⟨List.cons_ne_nil _ _, _, rfl⟩

/-- Settles O24: bytes that name an instruction are neither an absent entry nor the end. -/
theorem noByteSequenceIsIllegal : Obligations.NoByteSequenceIsIllegal := by
  intro bytes
  obtain ⟨rfl, hdec⟩ | ⟨hne, i, hi⟩ := instr?_of_decodes (decodes bytes)
  · exact ⟨by rw [hdec]; exact Decoded.noConfusion, fun _ => rfl, fun _ => hdec⟩
  · refine ⟨fun h => ?_, fun h => ?_, fun h => absurd h hne⟩ <;> rw [h] at hi <;> cases hi

/-! A prefix value inside an instruction (30_encoding.md R99; 70_reset_and_hazards.md R308). -/

/-- Settles O40: after the byte, or the two bytes, that pick a row, the decoder reads an operand and dispatches no more;
in the displaced form it reads the displacement and the index of a row. -/
theorem prefixValueInsideInstructionIsData : Obligations.PrefixValueInsideInstructionIsData := by
  refine ⟨fun op hop => ?_, fun p sel t hp hsel => ?_, fun p d x t3 hp => ?_, by decide⟩
  · obtain ⟨i, hrow, htable, hindex⟩ := rowAt_complete .primary op
    refine ⟨i, htable, hindex, fun o rest hfits => ?_⟩
    rw [decode_of_row hrow ((markerTable_of_row hrow).trans hop), decodeOperand_operandBytes hfits]
  · obtain ⟨j, hrow, htable, hindex⟩ := rowAt_complete t sel
    have hd : j.displacedTable = none := by
      refine Option.eq_none_iff_forall_ne_some.mpr fun t3 h => hsel ?_
      obtain ⟨hcb, ht⟩ := displacedTable_eq_some h
      rw [htable] at ht
      exact ⟨hindex.symm.trans hcb, ht.imp And.left And.left⟩
    refine ⟨j, htable, hindex, fun o rest hfits => ?_⟩
    rw [decode_of_prefixed_row hp hrow hd, decodeOperand_operandBytes hfits]
  · obtain ⟨k, hrow, htable, hindex⟩ := rowAt_complete t3 x
    exact ⟨k, htable, hindex, decode_of_displaced_row hp hrow d⟩

theorem decode_of_prefixed_row_no_operand {p sel : Byte} {t : TableId} {j : Instr} (hp : prefixTable p = some t)
    (hrow : rowAt t sel = some j) (hd : j.displacedTable = none) (hf : j.entry.form = .none) (rest : List Byte) :
    decode (p :: sel :: rest) = .instr j .none rest := by
  rw [decode_of_prefixed_row hp hrow hd, decodeOperand_of_none hf]

/-- Settles O41: the six selectors are rows without an operand. -/
theorem prefixAfterIndexPrefixIsPlaceholder : Obligations.PrefixAfterIndexPrefixIsPlaceholder := by
  intro rest
  refine ⟨?_, ?_, ?_, ?_, ?_, ?_⟩ <;> exact decode_of_prefixed_row_no_operand rfl rfl rfl rfl rest

/-- Settles O39, by evaluating the decoder on the seven words. -/
theorem specWordsDecode : Obligations.SpecWordsDecode := by
  unfold Obligations.SpecWordsDecode
  decide

end Sys2Proof
end

section
/-! PROOFS. The displaced form and the entries cut short, over any accepted table set (40_decoder.md R136, R138). -/

namespace Sys2Proof.Machine

variable {T : TableSet} {s : State}

theorem Engine.finish_cut_short {pfx L : Nat} (m : String) (h : s.off + (L + pfx) > s.size) :
    Engine.finish pfx m L s = .next (s.stop .truncatedOperand) := by
  rw [Engine.finish, if_pos h]

theorem Engine.displaced_cut_short (T : TableSet) (t3 : TableId) (h : s.off + 3 ≥ s.size) :
    Engine.displaced T t3 s = .next (s.stop .truncatedOperand) := by
  rw [Engine.displaced, if_pos h]

/-- A third-level table of a well-formed set holds `Plain(m, 2)` at every index (30_encoding.md R97 WF6). -/
theorem exists_isLine_of_isThirdLevel (h : T.wellFormed = true) {t3 : TableId} (ht : t3.isThirdLevel = true) (b : Byte) :
    ∃ m, IsLine (T.lookup t3 b) m 2 := by
  obtain ⟨d, hd, -⟩ := wellFormed_lookup h t3 b
  have hform := thirdLevelForm_of_lookup h ht hd
  cases d with
  | plain m L =>
    obtain rfl : L = 2 := beq_iff_eq.mp hform
    exact ⟨m, .inl hd⟩
  | placeholder m L =>
    obtain rfl : L = 2 := beq_iff_eq.mp hform
    exact ⟨m, .inr hd⟩
  | prefixTo | displacedPrefixTo => cases hform

theorem step_of_displaced {t t3 : TableId} (h : Ready s) (hsel : s.off + 1 < s.size)
    (hp : s.tableSet.lookup .primary (s.byteAt s.off) = some (.prefixTo t))
    (hd : s.tableSet.lookup t (s.byteAt (s.off + 1)) = some (.displacedPrefixTo t3)) :
    step s = Engine.displaced s.tableSet t3 s := by
  rw [step_eq_engine_step h, Engine.step_of_prefix (Nat.lt_of_succ_lt hsel) hp, Engine.dispatch_of_displaced hsel hd]

/-- Settles O11: the generic step comes to its displaced branch, and the tables it is led to are secondary and
third-level ones because the set is well formed. -/
theorem displacedStepEmitsDisplacement : Obligations.DisplacedStepEmitsDisplacement := by
  intro s t t3 h hsel hp hd
  have ht : t.isSecondary = true := primaryForm_of_lookup h.wellFormed hp
  have ht3 : t3.isThirdLevel = true := secondaryForm_of_lookup h.wellFormed ht hd
  rw [step_of_displaced h hsel hp hd]
  refine ⟨fun hcut => Engine.displaced_cut_short _ t3 hcut, fun hfits => ?_⟩
  obtain ⟨m, hl⟩ := exists_isLine_of_isThirdLevel h.wellFormed ht3 (s.byteAt (s.off + 3))
  exact ⟨m, hl, Engine.displaced_complete hfits hl⟩

/-- Settles O12: both kinds of entry end in the generic step's length check. -/
theorem cutShortEntryStopsWithNoLine : Obligations.CutShortEntryStopsWithNoLine := by
  refine ⟨fun s m L h hoff hl hcut => ?_, fun s t m L h hsel hp hl hcut => ?_⟩
  · rw [step_eq_engine_step h, Engine.step_of_isLine hoff hl, Engine.finish_cut_short m hcut]
  · rw [step_eq_engine_step h, Engine.step_of_prefix (Nat.lt_of_succ_lt hsel) hp, Engine.dispatch_of_isLine hsel hl,
      Engine.finish_cut_short m hcut]

end Sys2Proof.Machine
end

section
/-! PROOFS. What a step reads: at most four bytes at the cursor, and for a line only the bytes of the line
(20_memory.md R55; 10_state.md R33). -/

namespace Sys2Proof.Machine

/-- Of the four bytes at the cursor, those that `s₁` has stand at the cursor of `s₂` too. -/
def WindowIn (s₁ s₂ : State) : Prop :=
  ∀ k < 4, ∀ b, s₁.read? (s₁.off + k) = some b → s₂.read? (s₂.off + k) = some b

/-- How a step from `s₂` goes with one from `s₁`, whose bytes at the cursor `s₂` has too: a line is the same line, and
a stop is the same stop where neither has a byte more. -/
inductive Follows (s₁ s₂ : State) : Outcome → Outcome → Prop
  | stop (r : StopReason) {o₂ : Outcome} (h : WindowIn s₂ s₁ → o₂ = .next (s₂.stop r)) :
      Follows s₁ s₂ (.next (s₁.stop r)) o₂
  | line (n : Nat) (m : String) (o : Operand) :
      Follows s₁ s₂ (.next (s₁.afterLine n m o)) (.next (s₂.afterLine n m o))

variable {T : TableSet} {s₁ s₂ : State}

theorem WindowIn.byteAt (hw : WindowIn s₁ s₂) {k : Nat} (hk : k < 4) (h : s₁.off + k < s₁.size) :
    s₂.byteAt (s₂.off + k) = s₁.byteAt (s₁.off + k) := by
  rw [State.byteAt, hw k hk _ (State.read?_eq_byteAt h), Option.getD_some]

theorem WindowIn.lt_size (hw : WindowIn s₁ s₂) {k : Nat} (hk : k < 4) (h : s₁.off + k < s₁.size) :
    s₂.off + k < s₂.size := by
  rw [← State.read?_isSome, hw k hk _ (State.read?_eq_byteAt h), Option.isSome_some]

/-- Where the first has no byte, and the second has none that the first has not, the second has none. -/
theorem WindowIn.size_le (hw : WindowIn s₂ s₁) {k : Nat} (hk : k < 4) (h : s₁.off + k ≥ s₁.size) :
    s₂.off + k ≥ s₂.size :=
  Nat.not_lt.mp fun hlt => Nat.not_lt.mpr h (hw.lt_size hk hlt)

/-- The operand of a line is read inside it. -/
theorem WindowIn.operandAt (hw : WindowIn s₁ s₂) {j L : Nat} (hL : lengthInRange L = true) (hj : j + L ≤ 5)
    (h : s₁.off + j + L ≤ s₁.size + 1) : s₂.operandAt (s₂.off + j) L = s₁.operandAt (s₁.off + j) L := by
  obtain ⟨hpos, hmax⟩ := lengthInRange_iff.mp hL
  unfold State.operandAt
  split_ifs with h1 h2
  · rfl
  · rw [hw.byteAt (by omega) (by omega)]
  · rw [Nat.add_assoc, Nat.add_assoc, hw.byteAt (by omega) (by omega), hw.byteAt (by omega) (by omega)]

theorem Engine.finish_follows (hw : WindowIn s₁ s₂) {pfx L : Nat} (hp : pfx ≤ 1) (hL : lengthInRange L = true)
    (m : String) : Follows s₁ s₂ (Engine.finish pfx m L s₁) (Engine.finish pfx m L s₂) := by
  obtain ⟨hpos, hmax⟩ := lengthInRange_iff.mp hL
  obtain ⟨k, hk⟩ : ∃ k, L + pfx = k + 1 := ⟨L + pfx - 1, by omega⟩
  by_cases hfits : s₁.off + k < s₁.size
  · have hfits' := hw.lt_size (by omega) hfits
    have hop := hw.operandAt (j := 1 + pfx) hL (by omega) (by omega)
    simp only [← Nat.add_assoc] at hop
    rw [finish_complete m (by omega), finish_complete m (by omega), hop]
    exact .line _ m _
  · rw [finish_cut_short m (by omega)]
    refine .stop _ fun hback => finish_cut_short m ?_
    have hcut := hback.size_le (by omega) (Nat.not_lt.mp hfits)
    omega

theorem Engine.displaced_follows (hT : T.wellFormed = true) (hw : WindowIn s₁ s₂) {t3 : TableId}
    (ht3 : t3.isThirdLevel = true) : Follows s₁ s₂ (Engine.displaced T t3 s₁) (Engine.displaced T t3 s₂) := by
  by_cases hfits : s₁.off + 3 < s₁.size
  · obtain ⟨m, hl⟩ := exists_isLine_of_isThirdLevel hT ht3 (s₁.byteAt (s₁.off + 3))
    have hl' := hl
    rw [← hw.byteAt (by omega) hfits] at hl'
    rw [displaced_complete hfits hl, displaced_complete (hw.lt_size (by omega) hfits) hl',
      hw.byteAt (by omega) (by omega)]
    exact .line 4 m _
  · rw [displaced_cut_short T t3 (Nat.not_lt.mp hfits)]
    exact .stop _ fun hback => displaced_cut_short T t3 (hback.size_le (by omega) (Nat.not_lt.mp hfits))

theorem Engine.dispatch_follows (hT : T.wellFormed = true) (hw : WindowIn s₁ s₂) {t : TableId}
    (ht : t.isSecondary = true) : Follows s₁ s₂ (Engine.dispatch T t s₁) (Engine.dispatch T t s₂) := by
  by_cases hsel : s₁.off + 1 < s₁.size
  · obtain ⟨d, hd, -⟩ := wellFormed_lookup hT t (s₁.byteAt (s₁.off + 1))
    have hform := secondaryForm_of_lookup hT ht hd
    rw [dispatch, dispatch, if_neg (Nat.not_le.mpr hsel), if_neg (Nat.not_le.mpr (hw.lt_size (by omega) hsel)),
      hw.byteAt (by omega) hsel, hd]
    cases d with
    | plain m L => exact finish_follows hw (le_refl 1) hform m
    | placeholder m L => exact finish_follows hw (le_refl 1) hform m
    | displacedPrefixTo t3 => exact displaced_follows hT hw hform
    | prefixTo t => cases hform
  · rw [dispatch_of_lone_prefix T t (Nat.not_lt.mp hsel)]
    exact .stop _ fun hback => dispatch_of_lone_prefix T t (hback.size_le (by omega) (Nat.not_lt.mp hsel))

theorem Engine.step_follows (hT : T.wellFormed = true) (hw : WindowIn s₁ s₂) :
    Follows s₁ s₂ (Engine.step T s₁) (Engine.step T s₂) := by
  by_cases hoff : s₁.off < s₁.size
  · obtain ⟨d, hd, -⟩ := wellFormed_lookup hT .primary (s₁.byteAt s₁.off)
    have hform := primaryForm_of_lookup hT hd
    have hbyte : s₂.byteAt s₂.off = s₁.byteAt s₁.off := hw.byteAt (k := 0) (by omega) hoff
    have hoff' : s₂.off < s₂.size := hw.lt_size (k := 0) (by omega) hoff
    rw [step, step, if_neg (Nat.not_le.mpr hoff), if_neg (Nat.not_le.mpr hoff'), hbyte, hd]
    cases d with
    | plain m L => exact finish_follows hw (Nat.zero_le 1) hform m
    | placeholder m L => exact finish_follows hw (Nat.zero_le 1) hform m
    | prefixTo t => exact dispatch_follows hT hw hform
    | displacedPrefixTo t => cases hform
  · rw [step_of_end T (Nat.not_lt.mp hoff)]
    exact .stop _ fun hback => step_of_end T (hback.size_le (k := 0) (by omega) (Nat.not_lt.mp hoff))

theorem step_follows (h : Ready s₁) (ht : s₁.tables = s₂.tables) (hph : s₁.placeholder = s₂.placeholder)
    (hrun : s₁.run = s₂.run) (hw : WindowIn s₁ s₂) : Follows s₁ s₂ (step s₁) (step s₂) := by
  have htables : s₂.tableSet = s₁.tableSet := by rw [State.tableSet, State.tableSet, ht, hph]
  have hready : Ready s₂ := by rwa [Ready, State.tablesOk, ← ht, ← hph, ← hrun]
  rw [step_eq_engine_step h, step_eq_engine_step hready, htables]
  exact Engine.step_follows h.wellFormed hw

/-- Settles O18: the bytes at the cursor are the same, and so the step is the same stop or the same line. -/
theorem decodeIgnoresAddressAndLines : Obligations.DecodeIgnoresAddressAndLines := by
  intro s₁ s₂ t₁ hstream ht hph hoff hrun hstep
  have hw : WindowIn s₁ s₂ := fun k _ b hb => by rwa [State.read?, ← hstream, ← hoff]
  have hback : WindowIn s₂ s₁ := fun k _ b hb => by rwa [State.read?, hstream, hoff]
  have hfollows := step_follows (ready_of_step hstep) ht hph hrun hw
  rw [hstep] at hfollows
  generalize hstep₂ : step s₂ = o₂ at hfollows
  cases hfollows with
  | stop r h => exact ⟨_, [], [], h hback, hoff, rfl, (List.append_nil _).symm, (List.append_nil _).symm, rfl⟩
  | line n m o =>
    exact ⟨_, [⟨s₁.addr, m, o⟩], [⟨s₂.addr, m, o⟩], rfl, congrArg (· + n) hoff, hrun, rfl, rfl, rfl⟩

theorem windowIn_of_take_eq (hoff : s₁.off = s₂.off)
    (h : (s₁.stream.drop s₁.off).take 4 = (s₂.stream.drop s₁.off).take 4) : WindowIn s₁ s₂ := by
  intro k hk b hb
  have hbyte := congrArg (·[k]?) h
  simp only [List.getElem?_take_of_lt hk, List.getElem?_drop] at hbyte
  rw [State.read?, ← hoff, ← hbyte]
  exact hb

/-- The same decoder over another stream. -/
def State.withStream (s : State) (stream : List Byte) : State := { s with stream := stream }

theorem step_withStream_follows {s t : State} (hstep : step s = .next t) {stream : List Byte}
    (hw : WindowIn s (s.withStream stream)) :
    Follows s (s.withStream stream) (.next t) (step (s.withStream stream)) :=
  hstep ▸ step_follows (ready_of_step hstep) rfl rfl rfl hw

/-- Settles O19: a step follows the one from a stream with the same four bytes at the cursor, and no step writes the
stream. -/
theorem stepReadsAtMostFourBytes : Obligations.StepReadsAtMostFourBytes := by
  intro s t stream h hstep
  have hw : WindowIn s (s.withStream stream) := windowIn_of_take_eq rfl h
  have hback : WindowIn (s.withStream stream) s := windowIn_of_take_eq rfl h.symm
  have hfollows := step_withStream_follows hstep hw
  change step (s.withStream stream) = .next (t.withStream stream)
  generalize step (s.withStream stream) = o₂ at hfollows
  cases hfollows with
  | stop r h => exact h hback
  | line n m o => rfl

end Sys2Proof.Machine
end

section
/-! PROOFS. Runs: when they end, what they keep, and what they emit (40_decoder.md R146, R147; 60_exceptions.md R201). -/

namespace Sys2Proof.Machine

variable {s t : State}

/-! A run, one step at a time. -/

theorem runSteps_of_stopped {r : StopReason} (h : s.run = .stopped r) (k : Nat) : runSteps k s = s := by
  obtain ⟨-, -, hrun, -⟩ := stoppedRunHasNoStep s r h
  exact hrun k

theorem runSteps_of_step (h : step s = .next t) (k : Nat) : runSteps (k + 1) s = runSteps k t := by
  obtain ⟨hrun, -⟩ := ready_of_step h
  simp only [runSteps, hrun, h]

theorem runSteps_of_no_step (h : ∀ t, step s ≠ .next t) (k : Nat) : runSteps k s = s := by
  cases k with
  | zero => rfl
  | succ k =>
    cases hrun : s.run with
    | stopped r => exact runSteps_of_stopped hrun (k + 1)
    | running =>
      simp only [runSteps, hrun]
      cases hstep : step s with
      | next t => exact absurd hstep (h t)
      | fault f => rfl
      | refused r => rfl

theorem runSteps_add (j k : Nat) (s : State) : runSteps (j + k) s = runSteps k (runSteps j s) := by
  induction j generalizing s with
  | zero => rw [Nat.zero_add, runSteps]
  | succ j ih =>
    by_cases h : ∃ t, step s = .next t
    · obtain ⟨t, ht⟩ := h
      rw [Nat.add_right_comm, runSteps_of_step ht, runSteps_of_step ht, ih]
    · have hno : ∀ t, step s ≠ .next t := fun t ht => h ⟨t, ht⟩
      rw [runSteps_of_no_step hno, runSteps_of_no_step hno, runSteps_of_no_step hno]

/-- What every step keeps, a run keeps. -/
theorem runSteps_keeps {P : State → Prop} (hstep : ∀ s t, P s → step s = .next t → P t) (k : Nat) (h : P s) :
    P (runSteps k s) := by
  induction k generalizing s with
  | zero => exact h
  | succ k ih =>
    by_cases hs : ∃ t, step s = .next t
    · obtain ⟨t, ht⟩ := hs
      rw [runSteps_of_step ht]
      exact ih (hstep s t h ht)
    · rwa [runSteps_of_no_step fun t ht => hs ⟨t, ht⟩]

/-! What a run keeps. -/

/-- A later state of the same run: the parameters are the same, the cursor no further back, and lines only added. -/
structure LaterThan (s t : State) : Prop where
  stream : t.stream = s.stream
  tables : t.tables = s.tables
  placeholder : t.placeholder = s.placeholder
  off : s.off ≤ t.off
  out : s.out <+: t.out

theorem LaterThan.refl (s : State) : LaterThan s s := ⟨rfl, rfl, rfl, le_rfl, List.prefix_rfl⟩

theorem LaterThan.step {u : State} (h : LaterThan s t) (hstep : step t = .next u) : LaterThan s u := by
  obtain ⟨r, rfl⟩ | ⟨n, m, o, -, -, -, rfl⟩ := step_cases hstep
  · exact ⟨h.stream, h.tables, h.placeholder, h.off, h.out⟩
  · exact ⟨h.stream, h.tables, h.placeholder, Nat.le_add_right_of_le h.off, h.out.trans (List.prefix_append _ _)⟩

theorem runSteps_laterThan (k : Nat) (s : State) : LaterThan s (runSteps k s) :=
  runSteps_keeps (fun _ _ h => h.step) k (.refl s)

theorem runSteps_inv (k : Nat) (h : Inv s) : Inv (runSteps k s) :=
  runSteps_keeps invariantKeptByEveryStep k h

/-- Settles O7: each step leads to a later state, and so does the run. -/
theorem runOnlyAppendsAndAdvances : Obligations.RunOnlyAppendsAndAdvances := by
  intro k s
  have h := runSteps_laterThan k s
  exact ⟨h.stream, h.tables, h.placeholder, h.off, h.out⟩

/-! When a run ends. -/

/-- Each line takes a byte of those left, so there are no more lines than bytes, and one step for the stop. -/
theorem runSteps_stops (k : Nat) (h : Ready s) (hk : s.size - s.off < k) : ∃ r, (runSteps k s).run = .stopped r := by
  induction k generalizing s with
  | zero => exact absurd hk (Nat.not_lt_zero _)
  | succ k ih =>
    obtain ⟨r, hstep⟩ | ⟨n, m, o, hpos, -, hfits, hstep⟩ := step_stopsOrEmits h
    · rw [runSteps_of_step hstep, runSteps_of_stopped (s.stop_run r)]
      exact ⟨r, s.stop_run r⟩
    · rw [runSteps_of_step hstep]
      refine ih (h.afterLine n m o) ?_
      rw [State.afterLine_size, State.afterLine_off]
      omega

/-- Settles O4: the number of steps is one more than the bytes left. -/
theorem runEndsWithinStreamLength : Obligations.RunEndsWithinStreamLength :=
  fun _ h => runSteps_stops _ h (Nat.lt_succ_self _)

/-- Steps beyond the end of a run change nothing. -/
theorem runSteps_eq_of_size_lt {j k : Nat} (h : Ready s) (hj : s.size - s.off < j) (hjk : j ≤ k) :
    runSteps k s = runSteps j s := by
  obtain ⟨r, hr⟩ := runSteps_stops j h hj
  obtain ⟨i, rfl⟩ := Nat.exists_eq_add_of_le hjk
  rw [runSteps_add, runSteps_of_stopped hr]

/-! The lines of a stream. -/

/-- `decode(S)` is one run from the start of the stream, where the tables are accepted. -/
theorem decodeStream_eq_some {tables : TableChoice} {placeholder : String} {stream : List Byte}
    {lines : List DecodedLine} (h : decodeStream tables placeholder stream = some lines) :
    Ready (State.start stream tables placeholder) ∧
    lines = (runSteps (stream.length + 1) (State.start stream tables placeholder)).out := by
  cases hok : (State.start stream tables placeholder).tablesOk with
  | true =>
    have hboot : boot stream tables placeholder = .next (State.start stream tables placeholder) := if_pos hok
    simp only [decodeStream, hboot, Option.some.injEq] at h
    exact ⟨⟨rfl, hok⟩, h.symm⟩
  | false =>
    have hboot : boot stream tables placeholder = .refused .illFormedTables := if_neg (Bool.not_eq_true _ ▸ hok)
    simp only [decodeStream, hboot] at h
    cases h

/-- Settles O5: the invariant holds at the start and all along the run, whose lines are at most as many as the bytes
consumed. -/
theorem runEmitsAtMostStreamLength : Obligations.RunEmitsAtMostStreamLength := by
  intro tables placeholder stream lines h
  obtain ⟨-, rfl⟩ := decodeStream_eq_some h
  have hstream := (runSteps_laterThan (stream.length + 1) (State.start stream tables placeholder)).stream
  obtain ⟨hoff, -, hout⟩ := runSteps_inv (stream.length + 1) (inv_start stream tables placeholder)
  rw [State.size, hstream] at hoff
  exact hout.trans hoff

theorem windowIn_append (s : State) (more : List Byte) : WindowIn s (s.withStream (s.stream ++ more)) := by
  intro k _ b hb
  obtain ⟨hlt, -⟩ := List.getElem?_eq_some_iff.mp hb
  exact (List.getElem?_append_left hlt).trans hb

/-- A run over a longer stream emits at least the lines of the run over its beginning: it emits the same line as long as
that run does, and only appends after. -/
theorem runSteps_out_prefix (k : Nat) (s : State) (more : List Byte) :
    (runSteps k s).out <+: (runSteps k (s.withStream (s.stream ++ more))).out := by
  induction k generalizing s with
  | zero => exact List.prefix_rfl
  | succ k ih =>
    have hlater := (runSteps_laterThan (k + 1) (s.withStream (s.stream ++ more))).out
    by_cases h : ∃ t, step s = .next t
    · obtain ⟨t, ht⟩ := h
      have hfollows := step_withStream_follows ht (windowIn_append s more)
      rw [runSteps_of_step ht]
      generalize hstep : step (s.withStream (s.stream ++ more)) = o₂ at hfollows
      cases hfollows with
      | stop r =>
        rw [runSteps_of_stopped (s.stop_run r)]
        exact hlater
      | line n m o =>
        rw [runSteps_of_step hstep]
        exact ih (s.afterLine n m o)
    · rw [runSteps_of_no_step fun t ht => h ⟨t, ht⟩]
      exact hlater

/-- Settles O6: the two runs emit the same lines until the shorter stream stops the first, and the second only appends
after that. -/
theorem linesOfPrefixAreFirstLines : Obligations.LinesOfPrefixAreFirstLines := by
  intro tables placeholder stream more lines lines' h h'
  obtain ⟨-, rfl⟩ := decodeStream_eq_some h
  obtain ⟨-, rfl⟩ := decodeStream_eq_some h'
  refine (runSteps_out_prefix _ (State.start stream tables placeholder) more).trans ?_
  rw [List.length_append, Nat.add_right_comm, runSteps_add (stream.length + 1)]
  exact (runSteps_laterThan more.length _).out

end Sys2Proof.Machine
end

section
/-! PROOFS. The table entries of the instructions: which are placeholders, which plain, and of what length (30_encoding.md
R94, R95). -/

namespace Sys2Proof.Machine

theorem lookup_withText (ph : String) (t : TableId) (b : Byte) :
    (defaultTables ph).lookup t b = ((defaultTables "NOP").lookup t b).map (Descriptor.withText ph) := by
  rw [TableSet.lookup, defaultTables_table, List.getElem?_map, TableSet.lookup]

theorem exists_lookup (ph : String) (t : TableId) (b : Byte) : ∃ d, (defaultTables ph).lookup t b = some d := by
  obtain ⟨i, -, rfl, rfl⟩ := rowAt_complete t b
  obtain ⟨d, hd, -⟩ := lookup_agrees ph i
  exact ⟨d, hd⟩

/-- Whether every entry of the default tables, at its table and index, passes a check. -/
def everyEntry (check : TableId → Byte → Descriptor → Bool) : Bool :=
  allTables.all fun t => ((defaultTables "NOP").table t).zipIdx.all fun c => check t (BitVec.ofNat 8 c.2) c.1

theorem check_of_everyEntry {check : TableId → Byte → Descriptor → Bool} (h : everyEntry check = true) {t : TableId}
    {b : Byte} {d : Descriptor} (hd : (defaultTables "NOP").lookup t b = some d) : check t b d = true := by
  have htable := List.all_eq_true.mp h t (mem_allTables t)
  have hentry := List.all_eq_true.mp htable (d, b.toNat) (List.mk_mem_zipIdx_iff_getElem?.mpr hd)
  rwa [BitVec.ofNat_toNat, BitVec.setWidth_eq] at hentry

/-! Placeholders. -/

/-- A placeholder stands only where `placeholderAt` says, with the text `NOP` and length 1; no other entry does. -/
def placeholderCheck (t : TableId) (b : Byte) : Descriptor → Bool
  | .placeholder m L => placeholderAt t b && m == "NOP" && L == 1
  | .plain _ _ | .prefixTo _ | .displacedPrefixTo _ => !placeholderAt t b

theorem everyEntry_placeholderCheck : everyEntry placeholderCheck = true := by decide +kernel

theorem placeholderAt_of_lookup {ph : String} {t : TableId} {b : Byte} {m : String} {L : Nat}
    (h : (defaultTables ph).lookup t b = some (.placeholder m L)) : placeholderAt t b = true := by
  rw [lookup_withText, Option.map_eq_some_iff] at h
  obtain ⟨d, hd, htext⟩ := h
  have hcheck := check_of_everyEntry everyEntry_placeholderCheck hd
  cases d with
  | placeholder =>
    simp only [placeholderCheck, Bool.and_eq_true] at hcheck
    obtain ⟨⟨hat, -⟩, -⟩ := hcheck
    exact hat
  | plain | prefixTo | displacedPrefixTo => cases htext

theorem lookup_of_placeholderAt (ph : String) {t : TableId} {b : Byte} (h : placeholderAt t b = true) :
    (defaultTables ph).lookup t b = some (.placeholder ph 1) := by
  obtain ⟨d, hd⟩ := exists_lookup "NOP" t b
  have hcheck := check_of_everyEntry everyEntry_placeholderCheck hd
  cases d with
  | placeholder m L =>
    simp only [placeholderCheck, Bool.and_eq_true, beq_iff_eq] at hcheck
    obtain ⟨-, rfl⟩ := hcheck
    rw [lookup_withText, hd]
    rfl
  | plain | prefixTo | displacedPrefixTo =>
    rw [placeholderCheck, h] at hcheck
    cases hcheck

theorem placeholderAt_eq_false {t : TableId} (ht : t ≠ .ed ∧ t ≠ .dd ∧ t ≠ .fd) (b : Byte) :
    placeholderAt t b = false := by
  cases t with
  | primary | cb | ddcb | fdcb => rfl
  | ed | dd | fd => simp at ht

/-- Where no placeholder stands an instruction entry is `Plain`. -/
theorem lookup_plain_of_isLine {ph : String} {t : TableId} {b : Byte} {m : String} {L : Nat}
    (hl : IsLine ((defaultTables ph).lookup t b) m L) (hno : placeholderAt t b = false) :
    (defaultTables ph).lookup t b = some (.plain m L) := by
  obtain hl | hl := hl
  · exact hl
  · cases hno.symm.trans (placeholderAt_of_lookup hl)

/-- A descriptor is the line of one text and one length. -/
theorem IsLine.unique {d : Option Descriptor} {m m' : String} {L L' : Nat} (h : IsLine d m L) (h' : IsLine d m' L') :
    m = m' ∧ L = L' := by
  obtain h | h := h <;> obtain h' | h' := h' <;> cases h.symm.trans h' <;> exact ⟨rfl, rfl⟩

/-! Lengths. -/

theorem exists_plain_of_isThirdLevel (ph : String) {t : TableId} (ht : t.isThirdLevel = true) (b : Byte) :
    ∃ m, (defaultTables ph).lookup t b = some (.plain m 2) := by
  obtain ⟨i, -, rfl, rfl⟩ := rowAt_complete t b
  obtain ⟨m, hl⟩ := lookup_isLine ph (isMarker_eq_false_of_isThirdLevel ht)
  rw [form_of_isThirdLevel ht] at hl
  have hne : i.entry.table ≠ .ed ∧ i.entry.table ≠ .dd ∧ i.entry.table ≠ .fd := by
    refine ⟨?_, ?_, ?_⟩ <;> intro h <;> rw [h] at ht <;> cases ht
  exact ⟨m, lookup_plain_of_isLine hl (placeholderAt_eq_false hne _)⟩

/-- CB entries have no operand. -/
def cbCheck (t : TableId) (_ : Byte) : Descriptor → Bool
  | .plain _ L => t != .cb || L == 1
  | .placeholder _ _ | .prefixTo _ | .displacedPrefixTo _ => t != .cb

theorem everyEntry_cbCheck : everyEntry cbCheck = true := by decide +kernel

theorem form_of_cb {i : Instr} (ht : i.entry.table = .cb) : i.entry.form = .none := by
  obtain ⟨d, hd, hagrees⟩ := lookup_agrees "NOP" i
  have hcheck := check_of_everyEntry everyEntry_cbCheck hd
  rw [ht] at hcheck
  cases d with
  | plain m L =>
    obtain rfl : L = 1 := beq_iff_eq.mp hcheck
    have hlength : i.entry.form.length = 1 := beq_iff_eq.mp hagrees
    cases hf : i.entry.form with
    | none => rfl
    | byte | word => rw [hf] at hlength; cases hlength
  | placeholder | prefixTo | displacedPrefixTo => cases hcheck

end Sys2Proof.Machine
end

section
/-! PROOFS. The meaning of every instruction: its line where its bytes are in the stream (files 41-47, 40_decoder.md R142,
R156, R157), and the rows that dispatch. -/

namespace Sys2Proof

/-- Where the operand of an entry stands, from the first byte of the instruction (30_encoding.md R81): after the primary
index byte, or after the first two bytes. -/
def TableId.operandOffset : TableId → Nat
  | .primary => 1
  | .cb | .ed | .dd | .fd | .ddcb | .fdcb => 2

theorem operandOffset_of_isSecondary {t : TableId} (h : t.isSecondary = true) : t.operandOffset = 2 := by
  cases t with
  | cb | ed | dd | fd => rfl
  | primary | ddcb | fdcb => cases h

theorem operandOffset_of_isThirdLevel {t : TableId} (h : t.isThirdLevel = true) : t.operandOffset = 2 := by
  cases t with
  | ddcb | fdcb => rfl
  | primary | cb | ed | dd | fd => cases h

theorem totalLength_of_primary {i : Instr} (ht : i.entry.table = .primary) : i.totalLength = i.entry.form.length := by
  rw [Instr.totalLength, ht]; rfl

theorem totalLength_of_isSecondary {i : Instr} (ht : i.entry.table.isSecondary = true) :
    i.totalLength = i.entry.form.length + 1 := by
  rw [Instr.totalLength, prefixBytes_of_isSecondary ht]

theorem totalLength_of_isThirdLevel {i : Instr} (ht : i.entry.table.isThirdLevel = true) : i.totalLength = 4 := by
  rw [Instr.totalLength, prefixBytes_of_isThirdLevel ht, form_of_isThirdLevel ht]; rfl

/-- The index byte follows the prefix bytes, and the longest instruction has 4 bytes (30_encoding.md R80). -/
theorem totalLength_bounds (i : Instr) : i.entry.table.prefixBytes < i.totalLength ∧ i.totalLength ≤ 4 := by
  obtain ⟨hpos, hmax⟩ := Machine.lengthInRange_iff.mp (Machine.lengthInRange_form i.entry.form)
  refine ⟨by rw [Instr.totalLength]; omega, ?_⟩
  obtain ht | ht | ht := i.entry.table.kind
  · rw [totalLength_of_primary ht]; omega
  · rw [totalLength_of_isSecondary ht]; omega
  · rw [totalLength_of_isThirdLevel ht]

end Sys2Proof

namespace Sys2Proof.Machine

/-! Instructions that are no dispatch rows. -/

/-- The operand of an instruction, read where its entry says (30_encoding.md R87). -/
def State.entryOperand (s : State) (e : Entry) : Operand := s.operandAt (s.off + e.table.operandOffset) e.form.length

theorem exec_of_isLine {i : Instr} {s : State} {m : String} {L : Nat}
    (hl : IsLine ((defaultTables s.placeholder).lookup i.entry.table i.entry.index) m L) :
    exec i s = entryLine i.entry.table m L s := by
  rw [exec_eq_entryEffect]
  obtain hl | hl := hl <;> rw [hl] <;> rfl

/-- One equation for the meanings of the 1786 instructions: the effect of their line. -/
theorem exec_eq_lineEffect {i : Instr} (hmarker : i.isMarker = false) (s : State) :
    ∃ m, IsLine ((defaultTables s.placeholder).lookup i.entry.table i.entry.index) m i.entry.form.length ∧
      exec i s = .next (s.lineEffect i.entry.table.prefixBytes i.totalLength m (s.entryOperand i.entry)) := by
  obtain ⟨m, hl⟩ := lookup_isLine s.placeholder hmarker
  refine ⟨m, hl, ?_⟩
  rw [exec_of_isLine hl, State.entryOperand]
  obtain ht | ht | ht := i.entry.table.kind
  · rw [totalLength_of_primary ht, ht]
    rfl
  · rw [entryLine_of_isSecondary ht, totalLength_of_isSecondary ht, prefixBytes_of_isSecondary ht,
      operandOffset_of_isSecondary ht]
    rfl
  · rw [entryLine_of_isThirdLevel ht, totalLength_of_isThirdLevel ht, prefixBytes_of_isThirdLevel ht,
      operandOffset_of_isThirdLevel ht, form_of_isThirdLevel ht]
    rfl

/-- An instruction whose bytes are in the stream emits the line of its entry and advances by its bytes. -/
theorem exec_complete {i : Instr} (hmarker : i.isMarker = false) {s : State} (h : s.off + i.totalLength ≤ s.size) :
    ∃ m, IsLine ((defaultTables s.placeholder).lookup i.entry.table i.entry.index) m i.entry.form.length ∧
      exec i s = .next (s.afterLine i.totalLength m (s.entryOperand i.entry)) := by
  obtain ⟨m, hl, hexec⟩ := exec_eq_lineEffect hmarker s
  refine ⟨m, hl, ?_⟩
  rw [hexec, State.lineEffect_complete (totalLength_bounds i).1 h]
  rfl

/-- The same where the entry's text is known. -/
theorem exec_complete_of_isLine {i : Instr} (hmarker : i.isMarker = false) {s : State} {m : String} {L : Nat}
    (hl : IsLine ((defaultTables s.placeholder).lookup i.entry.table i.entry.index) m L)
    (h : s.off + i.totalLength ≤ s.size) : exec i s = .next (s.afterLine i.totalLength m (s.entryOperand i.entry)) := by
  obtain ⟨m', hl', hexec⟩ := exec_complete hmarker h
  obtain ⟨rfl, -⟩ := hl.unique hl'
  exact hexec

/-- Settles O27: no placeholder stands in the primary table. -/
theorem primaryInstructionsComplete : Obligations.PrimaryInstructionsComplete := by
  intro i s ht hmarker h
  rw [← totalLength_of_primary ht] at h
  obtain ⟨m, hl, hexec⟩ := exec_complete hmarker h
  rw [ht] at hl
  refine ⟨m, lookup_plain_of_isLine hl (placeholderAt_eq_false (by decide) _), ?_⟩
  rw [hexec, totalLength_of_primary ht, State.entryOperand, ht]
  rfl

/-- No CB or ED row dispatches. -/
theorem isMarker_eq_false_of_cb_or_ed {i : Instr} (ht : i.entry.table = .cb ∨ i.entry.table = .ed) :
    i.isMarker = false := by
  have hsecondary : i.entry.table.isSecondary = true := by obtain ht | ht := ht <;> rw [ht] <;> rfl
  refine isMarker_eq_false (markerTable_eq_none (ne_primary_of_isSecondary hsecondary))
    (Option.eq_none_iff_forall_ne_some.mpr fun t3 h => ?_)
  obtain ⟨-, hdisp⟩ := displacedTable_eq_some h
  obtain ht | ht := ht <;> simp [ht] at hdisp

/-- A secondary instruction, placeholder or not. -/
theorem exec_secondary_complete {i : Instr} (ht : i.entry.table.isSecondary = true) (hmarker : i.isMarker = false)
    {s : State} (h : s.off + (i.entry.form.length + 1) ≤ s.size) :
    ∃ m, IsLine ((defaultTables s.placeholder).lookup i.entry.table i.entry.index) m i.entry.form.length ∧
      exec i s = .next
        (s.afterLine (i.entry.form.length + 1) m (s.operandAt (s.off + 2) i.entry.form.length)) := by
  rw [← totalLength_of_isSecondary ht] at h ⊢
  rw [← operandOffset_of_isSecondary ht]
  exact exec_complete hmarker h

/-- Settles O28: a CB entry is `Plain` and has length 1. -/
theorem cbInstructionsComplete : Obligations.CbInstructionsComplete := by
  intro i s ht h
  have hf := form_of_cb ht
  obtain ⟨m, hl, hexec⟩ := exec_secondary_complete (by rw [ht]; rfl) (isMarker_eq_false_of_cb_or_ed (.inl ht))
    (by rw [hf]; exact h)
  rw [hf] at hl hexec
  rw [ht] at hl
  exact ⟨m, lookup_plain_of_isLine hl (placeholderAt_eq_false (by decide) _), hexec⟩

/-- Settles O29: no ED row dispatches. -/
theorem edInstructionsComplete : Obligations.EdInstructionsComplete := by
  intro i s ht h
  have hcomplete := exec_secondary_complete (by rw [ht]; rfl) (isMarker_eq_false_of_cb_or_ed (.inr ht)) h
  rwa [ht] at hcomplete

/-- Settles O30: both tables are secondary. -/
theorem indexInstructionsComplete : Obligations.IndexInstructionsComplete := by
  intro i s ht hmarker h
  have hsecondary : i.entry.table.isSecondary = true := by obtain ht | ht := ht <;> rw [ht] <;> rfl
  exact exec_secondary_complete hsecondary hmarker h

/-- Settles O31: a third-level entry is `Plain` and has length 2. -/
theorem displacedInstructionsComplete : Obligations.DisplacedInstructionsComplete := by
  intro i s ht h
  have hthird : i.entry.table.isThirdLevel = true := by obtain ht | ht := ht <;> rw [ht] <;> rfl
  obtain ⟨m, hm⟩ := exists_plain_of_isThirdLevel s.placeholder hthird i.entry.index
  have hexec := exec_complete_of_isLine (isMarker_eq_false_of_isThirdLevel hthird) (.inl hm)
    (by rw [totalLength_of_isThirdLevel hthird]; exact h)
  rw [totalLength_of_isThirdLevel hthird, State.entryOperand, operandOffset_of_isThirdLevel hthird,
    form_of_isThirdLevel hthird] at hexec
  exact ⟨m, hm, hexec⟩

theorem isSecondary_of_placeholderAt {t : TableId} {b : Byte} (h : placeholderAt t b = true) : t.isSecondary = true := by
  cases t with
  | ed | dd | fd => rfl
  | primary | cb | ddcb | fdcb => cases h

theorem prefixedLine_complete {s : State} (m : String) {L : Nat} (hpos : 0 < L) (h : s.off + (L + 1) ≤ s.size) :
    prefixedLine m L s = .next (s.afterLine (L + 1) m (s.operandAt (s.off + 2) L)) := by
  rw [prefixedLine, State.lineEffect_complete (Nat.lt_add_of_pos_left hpos) h]
  rfl

/-- Settles O33: the placeholder entries are found by their place, hold the placeholder text with length 1, and stand in
secondary tables. -/
theorem placeholderInstructionsComplete : Obligations.PlaceholderInstructionsComplete := by
  refine ⟨fun i s hat h => ?_, fun ph t b => ⟨fun ⟨m, L, hl⟩ => placeholderAt_of_lookup hl, fun hat => ?_⟩⟩
  · rw [exec_of_isLine (.inr (lookup_of_placeholderAt s.placeholder hat)),
      entryLine_of_isSecondary (isSecondary_of_placeholderAt hat), prefixedLine_complete _ Nat.one_pos h]
    rfl
  · exact ⟨ph, 1, lookup_of_placeholderAt ph hat⟩

/-! Instructions cut short. -/

theorem State.lineEffect_of_end {s : State} {pfx total : Nat} (m : String) (o : Operand) (h : s.off ≥ s.size) :
    s.lineEffect pfx total m o = s.stop .endOfStream := by
  rw [State.lineEffect, State.stopCheck, if_pos h]

theorem State.lineEffect_of_lone_prefix {s : State} {pfx total : Nat} (m : String) (o : Operand) (hoff : s.off < s.size)
    (hp : pfx ≠ 0) (hend : s.off + 1 ≥ s.size) : s.lineEffect pfx total m o = s.stop .truncatedPrefix := by
  rw [State.lineEffect, State.stopCheck, if_neg (Nat.not_le.mpr hoff), if_pos ⟨hp, hend⟩]

theorem prefixBytes_eq_zero {t : TableId} : t.prefixBytes = 0 ↔ t = .primary := by
  cases t <;> decide

/-- Settles O34: the three checks of the line's effect, in their order. -/
theorem instructionsCutShortStop : Obligations.InstructionsCutShortStop := by
  intro i s hmarker
  obtain ⟨m, -, hexec⟩ := exec_eq_lineEffect hmarker s
  rw [hexec]
  refine ⟨fun hend => ?_, fun hoff ht hend => ?_, fun hoff hsel hcut => ?_⟩
  · rw [State.lineEffect_of_end m _ hend]
  · rw [State.lineEffect_of_lone_prefix m _ hoff (mt prefixBytes_eq_zero.mp ht) hend]
  · rw [State.lineEffect_of_started m _ hoff (hsel.imp_left prefixBytes_eq_zero.mpr), if_pos hcut]

/-! Dispatch rows. -/

theorem exec_of_markerTable {i : Instr} {t : TableId} (hm : i.markerTable = some t) (s : State) :
    exec i s = prefixRow (defaultTables s.placeholder) t s := by
  rw [exec_eq_entryEffect, lookup_marker s.placeholder hm, entryEffect]

theorem exec_of_markerTable_of_lt {i : Instr} {t : TableId} (hm : i.markerTable = some t) {s : State}
    (hoff : s.off < s.size) : exec i s = Engine.dispatch (defaultTables s.placeholder) t s := by
  rw [exec_of_markerTable hm, prefixRow, if_neg (Nat.not_le.mpr hoff)]

/-- Where the default tables hold a displaced prefix, it leads to a third-level table. -/
theorem isThirdLevel_of_lookup {ph : String} {t t3 : TableId} {b : Byte}
    (h : (defaultTables ph).lookup t b = some (.displacedPrefixTo t3)) : t3.isThirdLevel = true := by
  obtain ⟨i, -, rfl, rfl⟩ := rowAt_complete t b
  obtain ⟨d, hd, hagrees⟩ := lookup_agrees ph i
  obtain rfl : d = .displacedPrefixTo t3 := Option.some.inj (hd.symm.trans h)
  exact isThirdLevel_of_displacedTable (beq_iff_eq.mp hagrees)

theorem Engine.displaced_default_complete (ph : String) {t3 : TableId} (ht3 : t3.isThirdLevel = true) {s : State}
    (h : s.off + 4 ≤ s.size) :
    ∃ m, (defaultTables ph).lookup t3 (s.byteAt (s.off + 3)) = some (.plain m 2) ∧
      Engine.displaced (defaultTables ph) t3 s = .next (s.afterLine 4 m (.u8 (s.byteAt (s.off + 2)))) := by
  obtain ⟨m, hm⟩ := exists_plain_of_isThirdLevel ph ht3 (s.byteAt (s.off + 3))
  exact ⟨m, hm, Engine.displaced_complete h (.inl hm)⟩

/-- Settles O32: a prefix row dispatches to the entry of the selector, a displaced row to the third-level entry. -/
theorem dispatchRowsComplete : Obligations.DispatchRowsComplete := by
  refine ⟨fun i t s m L hm hl hfits hsel => ?_, fun i t t3 s hm hd hfits => ?_, fun i t3 s hd hfits => ?_⟩
  · rw [exec_of_markerTable_of_lt hm (Nat.lt_of_succ_lt hsel), Engine.dispatch_of_isLine hsel hl,
      Engine.finish_complete m hfits]
  · rw [exec_of_markerTable_of_lt hm (by omega), Engine.dispatch_of_displaced (by omega) hd]
    exact Engine.displaced_default_complete _ (isThirdLevel_of_lookup hd) hfits
  · rw [exec_of_displacedTable hd (by omega)]
    exact Engine.displaced_default_complete _ (isThirdLevel_of_displacedTable hd) hfits

/-! The frame. -/

theorem Engine.displaced_default_stopsOrEmits (ph : String) {t3 : TableId} (ht3 : t3.isThirdLevel = true) (s : State) :
    StopsOrEmits s (Engine.displaced (defaultTables ph) t3 s) := by
  by_cases hfits : s.off + 4 ≤ s.size
  · obtain ⟨m, -, hline⟩ := Engine.displaced_default_complete ph ht3 hfits
    exact .inr ⟨4, m, _, by decide, le_rfl, hfits, hline⟩
  · exact .inl ⟨_, Engine.displaced_cut_short _ t3 (by omega)⟩

theorem Engine.dispatch_default_stopsOrEmits (ph : String) {t : TableId} (ht : t.isSecondary = true) (s : State) :
    StopsOrEmits s (Engine.dispatch (defaultTables ph) t s) := by
  by_cases hsel : s.off + 1 < s.size
  · obtain ⟨j, -, rfl, hindex⟩ := rowAt_complete t (s.byteAt (s.off + 1))
    cases hd : j.displacedTable with
    | some t3 =>
      rw [Engine.dispatch_of_displaced hsel (hindex ▸ lookup_displacedMarker ph hd)]
      exact Engine.displaced_default_stopsOrEmits ph (isThirdLevel_of_displacedTable hd) s
    | none =>
      have hm : j.markerTable = none := markerTable_eq_none (ne_primary_of_isSecondary ht)
      obtain ⟨m, hl⟩ := lookup_isLine ph (isMarker_eq_false hm hd)
      rw [Engine.dispatch_of_isLine hsel (hindex ▸ hl)]
      exact Engine.finish_stopsOrEmits le_rfl (lengthInRange_form _) m s
  · exact .inl ⟨_, Engine.dispatch_of_lone_prefix _ t (Nat.not_lt.mp hsel)⟩

/-- Everything the meaning of an instruction can do, from any state. -/
theorem exec_stopsOrEmits (i : Instr) (s : State) : StopsOrEmits s (exec i s) := by
  cases hm : i.markerTable with
  | some t =>
    rw [exec_of_markerTable hm, prefixRow]
    split_ifs
    · exact .inl ⟨_, rfl⟩
    · exact Engine.dispatch_default_stopsOrEmits _ (isSecondary_of_markerTable hm) s
  | none =>
    cases hd : i.displacedTable with
    | some t3 =>
      rw [exec_eq_entryEffect, lookup_displacedMarker _ hd, entryEffect, displacedRow]
      split_ifs
      · exact .inl ⟨_, rfl⟩
      · exact .inl ⟨_, rfl⟩
      · exact Engine.displaced_default_stopsOrEmits _ (isThirdLevel_of_displacedTable hd) s
    | none =>
      obtain ⟨m, -, hexec⟩ := exec_eq_lineEffect (isMarker_eq_false hm hd) s
      obtain ⟨hpos, hmax⟩ := totalLength_bounds i
      rw [hexec]
      obtain ⟨r, -, heffect⟩ | ⟨hfits, heffect⟩ := s.lineEffect_cases i.entry.table.prefixBytes i.totalLength m
        (s.entryOperand i.entry)
      · exact .inl ⟨r, by rw [heffect]⟩
      · exact .inr ⟨i.totalLength, m, _, by omega, hmax, hfits, by rw [heffect]; rfl⟩

/-- Settles O35: a stop and a line are all an instruction can do, and what either leaves is read off it. -/
theorem frameOfEveryInstruction : Obligations.FrameOfEveryInstruction := by
  intro i s t hexec
  obtain ⟨r, hr⟩ | ⟨n, m, o, hpos, hmax, -, hr⟩ := exec_stopsOrEmits i s
  · cases hexec.symm.trans hr
    exact ⟨fun _ => rfl, rfl, rfl, rfl, .inl ⟨r, rfl, rfl, rfl, rfl⟩⟩
  · cases hexec.symm.trans hr
    exact ⟨fun _ => rfl, rfl, rfl, rfl, .inr ⟨rfl, n, m, o, hpos, hmax, rfl, rfl, rfl⟩⟩

/-! The entries the source writes out. -/

theorem primaryLine_complete {s : State} (m : String) {L : Nat} (hpos : 0 < L) (h : s.off + L ≤ s.size) :
    primaryLine m L s = .next (s.afterLine L m (s.operandAt (s.off + 1) L)) := by
  rw [primaryLine, State.lineEffect_complete hpos h]
  rfl

/-- Settles O38: each meaning is the line of its kind of table, with the text and length its rule gives. -/
theorem writtenOutEntriesComplete : Obligations.WrittenOutEntriesComplete := by
  intro s
  refine ⟨fun h => ?_, fun h => ⟨?_, ?_⟩, fun h => ⟨?_, ?_⟩, fun h => ⟨?_, ?_, ?_, ?_⟩⟩
  · exact primaryLine_complete "NOP" (L := 1) (by decide) h
  · exact primaryLine_complete "LD B,n" (L := 2) (by decide) h
  · exact prefixedLine_complete "RLC B" (L := 1) (by decide) h
  · exact primaryLine_complete "LD BC,nn" (L := 3) (by decide) h
  · exact prefixedLine_complete "INC (IY+d)" (L := 2) (by decide) h
  · exact prefixedLine_complete "LD (nn),BC" (L := 3) (by decide) h
  · exact prefixedLine_complete "LD (IX+d),n" (L := 3) (by decide) h
  · exact displacedLine_complete "BIT 0,(IX+d)" h
  · exact displacedLine_complete "SET 7,(IY+d)" h

end Sys2Proof.Machine
end

section
/-! PROOFS. The meaning of what the decoder answers: the line of a whole instruction with the operand decoded, the stop of
one cut short (40_decoder.md R134, R136, R138, R142, R156), and the word placed at the cursor. -/

namespace Sys2Proof

/-- The operand bytes of an encoding stand at the operand's offset. -/
theorem exists_drop_operandOffset_encode {i : Instr} {o : Operand} (hfits : o.fits i.entry.form = true) :
    ∃ tail, (encode i o).drop i.entry.table.operandOffset = operandBytes o ++ tail := by
  obtain ht | ht | ht := i.entry.table.kind
  · exact ⟨[], by rw [encode_of_primary ht, ht, List.append_nil]; rfl⟩
  · obtain ⟨p, hp⟩ := exists_prefixTable ht
    exact ⟨[], by rw [encode_of_prefixed hp, operandOffset_of_isSecondary ht, List.append_nil]; rfl⟩
  · obtain ⟨p, hp⟩ := exists_leadsToDisplaced ht
    obtain ⟨d, rfl⟩ := eq_u8_of_fits_byte (form_of_isThirdLevel ht ▸ hfits)
    exact ⟨[i.entry.index], by rw [encode_of_displaced hp, operandOffset_of_isThirdLevel ht]; rfl⟩

theorem operandOffset_le_length_encode {i : Instr} {o : Operand} (hfits : o.fits i.entry.form = true) :
    i.entry.table.operandOffset ≤ (encode i o).length := by
  have hprefix := (totalLength_bounds i).1
  rw [length_encode hfits]
  obtain ht | ht | ht := i.entry.table.kind
  · rw [ht] at hprefix ⊢
    exact hprefix
  · rw [prefixBytes_of_isSecondary ht] at hprefix
    rw [operandOffset_of_isSecondary ht]
    exact hprefix
  · rw [totalLength_of_isThirdLevel ht, operandOffset_of_isThirdLevel ht]
    decide

/-! Bytes cut short, and the bytes that complete them. -/

theorem decodeOperand_eq_truncated {i j : Instr} {r : StopReason} {bytes : List Byte}
    (h : decodeOperand i bytes = .truncated j r) :
    i = j ∧ r = .truncatedOperand ∧ bytes.length + 1 < i.entry.form.length := by
  obtain ⟨hshort, hcut⟩ | ⟨o, rest, -, -, hwhole⟩ := decodeOperand_cases i bytes
  · cases hcut.symm.trans h
    exact ⟨rfl, rfl, hshort⟩
  · cases hwhole.symm.trans h

/-- Zero bytes fill up an operand. -/
theorem decodeOperand_completes (i : Instr) {bytes : List Byte} (h : bytes.length + 1 ≤ i.entry.form.length) :
    ∃ more o, decodeOperand i (bytes ++ more) = .instr i o [] := by
  obtain ⟨more, hmore⟩ : ∃ more : List Byte, more.length = i.entry.form.length - 1 - bytes.length :=
    ⟨List.replicate _ 0, List.length_replicate⟩
  have hlength : (bytes ++ more).length + 1 = i.entry.form.length := by
    rw [List.length_append, hmore]
    omega
  obtain ⟨o, rest, hfits, hbytes⟩ := exists_operandBytes_append i.entry.form hlength.ge
  have hrest : rest = [] := by
    have hop := length_operandBytes hfits
    rw [hbytes, List.length_append] at hlength
    exact List.eq_nil_of_length_eq_zero (by omega)
  exact ⟨more, o, by rw [hbytes, decodeOperand_operandBytes hfits, hrest]⟩

theorem exists_two_bytes {bytes : List Byte} (h : bytes.length < 2) : ∃ more d x, bytes ++ more = [d, x] := by
  match bytes with
  | [] => exact ⟨[0, 0], 0, 0, rfl⟩
  | [d] => exact ⟨[0], d, 0, rfl⟩
  | _ :: _ :: _ => exact absurd h (by simp)

theorem exists_completion_of_decodes {bytes : List Byte} {dec : Decoded} {i : Instr} {r : StopReason}
    (h : Decodes bytes dec) (hdec : dec = .truncated i r) : ∃ more j o, decode (bytes ++ more) = .instr j o [] := by
  cases h with
  | empty | displacedRow => cases hdec
  | @row b i hrow hm rest =>
    obtain ⟨-, -, hshort⟩ := decodeOperand_eq_truncated hdec
    obtain ⟨more, o, hmore⟩ := decodeOperand_completes i hshort.le
    exact ⟨more, i, o, by rw [List.cons_append, decode_of_row hrow hm, hmore]⟩
  | @lonePrefix p i t hrow hp =>
    obtain ⟨j, hrow', -, hindex⟩ := rowAt_complete t 0
    have hd : j.displacedTable = none := by rw [Instr.displacedTable, hindex]; rfl
    obtain ⟨more, o, hmore⟩ := decodeOperand_completes j (bytes := []) (by cases j.entry.form <;> decide)
    exact ⟨0 :: more, j, o, (decode_of_prefixed_row hp hrow' hd _).trans hmore⟩
  | @prefixedRow p sel t j hp hrow hd rest =>
    obtain ⟨-, -, hshort⟩ := decodeOperand_eq_truncated hdec
    obtain ⟨more, o, hmore⟩ := decodeOperand_completes j hshort.le
    exact ⟨more, j, o, by rw [List.cons_append, List.cons_append, decode_of_prefixed_row hp hrow hd, hmore]⟩
  | displacedShort hp hrow hd rest hshort =>
    obtain ⟨rfl, hdisp⟩ := leadsToDisplaced_of_marker hp hrow hd
    obtain ⟨more, d, x, hmore⟩ := exists_two_bytes hshort
    obtain ⟨k, hk, -⟩ := rowAt_complete _ x
    exact ⟨more, k, .u8 d, by rw [List.cons_append, List.cons_append, hmore, decode_of_displaced_row hdisp hk]⟩

end Sys2Proof

namespace Sys2Proof.Machine

variable {s : State}

/-! Whole instructions. -/

theorem State.byteAt_add (s : State) (j k : Nat) : s.byteAt (j + k) = ((s.stream.drop j)[k]?).getD 0 := by
  rw [State.byteAt, State.read?, List.getElem?_drop]

/-- Where the bytes of an operand stand, it is read. -/
theorem State.operandAt_of_drop {j : Nat} {o : Operand} {f : OperandForm} {rest : List Byte} (hfits : o.fits f = true)
    (h : s.stream.drop j = operandBytes o ++ rest) : s.operandAt j f.length = o := by
  have hbyte := s.byteAt_add j
  rw [h] at hbyte
  match o, f, hfits with
  | .none, .none, _ => rfl
  | .u8 v, .byte, _ => exact congrArg Operand.u8 (hbyte 0)
  | .u16 w, .word, _ =>
    have hword : s.operandAt j OperandForm.word.length = .u16 (word16 (lowByte w) (highByte w)) :=
      congrArg₂ (fun lo hi => Operand.u16 (word16 lo hi)) (hbyte 0) (hbyte 1)
    rw [hword, word16_low_high]

theorem State.entryOperand_of_drop {i : Instr} {o : Operand} {rest : List Byte} (hfits : o.fits i.entry.form = true)
    (h : s.stream.drop s.off = encode i o ++ rest) : s.entryOperand i.entry = o := by
  obtain ⟨tail, htail⟩ := exists_drop_operandOffset_encode hfits
  refine State.operandAt_of_drop (rest := tail ++ rest) hfits ?_
  rw [← List.drop_drop, h, List.drop_append_of_le_length (operandOffset_le_length_encode hfits), htail,
    List.append_assoc]

theorem State.off_add_le_size {n : Nat} (hpos : 0 < n) (h : n ≤ (s.stream.drop s.off).length) : s.off + n ≤ s.size := by
  rw [List.length_drop] at h
  rw [State.size]
  omega

/-- Settles O26: the bytes at the cursor are the instruction's encoding, so they are in the stream and the operand is
read where it was written. -/
theorem decodedInstructionEmitsItsLine : Obligations.DecodedInstructionEmitsItsLine := by
  intro s i o rest hdecode
  obtain ⟨hwf, hbytes⟩ := decodedInstructionEncodesToItsBytes _ _ _ _ hdecode
  obtain ⟨hmarker, hfits⟩ := Instr.wellFormed_iff.mp hwf
  have hlength := length_encode hfits
  have hpresent : s.off + i.totalLength ≤ s.size := by
    refine State.off_add_le_size (Nat.zero_lt_of_lt (totalLength_bounds i).1) ?_
    rw [hbytes, List.length_append, hlength]
    exact Nat.le_add_right _ _
  obtain ⟨m, hl, hexec⟩ := exec_complete hmarker hpresent
  exact ⟨m, hl, by rw [hexec, hlength, State.entryOperand_of_drop hfits hbytes]⟩

/-! Instructions cut short. -/

/-- An instruction whose operand bytes run past the stream. -/
theorem exec_of_short_operand {i : Instr} (hmarker : i.isMarker = false) (hoff : s.off < s.size)
    (hsel : i.entry.table = .primary ∨ s.off + 1 < s.size) (hcut : s.off + i.totalLength > s.size) :
    exec i s = .next (s.stop .truncatedOperand) := by
  obtain ⟨-, -, hstop⟩ := instructionsCutShortStop i s hmarker
  exact hstop hoff hsel hcut

theorem exec_of_decodes_truncated {bytes : List Byte} {dec : Decoded} {i : Instr} {r : StopReason}
    (h : Decodes bytes dec) (hdec : dec = .truncated i r) (hbytes : s.stream.drop s.off = bytes) :
    exec i s = .next (s.stop r) := by
  have hlength : s.size - s.off = bytes.length := by rw [← hbytes, List.length_drop, State.size]
  cases h with
  | empty | displacedRow => cases hdec
  | row hrow hm rest =>
    obtain ⟨rfl, rfl, hshort⟩ := decodeOperand_eq_truncated hdec
    have ht := (entry_of_rowAt hrow).1
    rw [List.length_cons] at hlength
    refine exec_of_short_operand (isMarker_eq_false_of_row hrow hm) (by omega) (.inl ht) ?_
    rw [totalLength_of_primary ht]
    omega
  | lonePrefix hrow hp =>
    cases hdec
    rw [List.length_singleton] at hlength
    rw [exec_of_markerTable_of_lt ((markerTable_of_row hrow).trans hp) (by omega),
      Engine.dispatch_of_lone_prefix _ _ (by omega)]
  | prefixedRow hp hrow hd rest =>
    obtain ⟨rfl, rfl, hshort⟩ := decodeOperand_eq_truncated hdec
    have ht : _ = true := (entry_of_rowAt hrow).1 ▸ isSecondary_of_prefixTable hp
    rw [List.length_cons, List.length_cons] at hlength
    refine exec_of_short_operand (isMarker_eq_false_of_prefixed_row hp hrow hd) (by omega) (.inr (by omega)) ?_
    rw [totalLength_of_isSecondary ht]
    omega
  | displacedShort hp hrow hd rest hshort =>
    cases hdec
    rw [List.length_cons, List.length_cons] at hlength
    rw [exec_of_displacedTable hd (by omega), Engine.displaced_cut_short _ _ (by omega)]

/-- Settles O25: on each of the four ways to be cut short the meaning stops for the decoder's reason, and zero bytes
complete the instruction, or the selector and an instruction after it. -/
theorem truncatedInstructionStops : Obligations.TruncatedInstructionStops :=
  fun _ _ _ h => ⟨exec_of_decodes_truncated (decodes _) h rfl, exists_completion_of_decodes (decodes _) h⟩

/-! The word placed at the cursor. -/

theorem ready_withFetchWord (s : State) (nbits w : Nat) : Ready (s.withFetchWord nbits w) := by
  refine ⟨rfl, ?_⟩
  change mnemonicText (if mnemonicText s.placeholder = true then s.placeholder else "NOP") = true
  split_ifs with h
  · exact h
  · decide

/-- The bytes before the cursor fill the stream up to it, and the word follows. -/
theorem drop_withFetchWord (s : State) (nbits w : Nat) :
    (s.withFetchWord nbits w).stream.drop (s.withFetchWord nbits w).off =
      tableWordBytes nbits w ++ s.stream.drop (s.off + (tableWordBytes nbits w).length) := by
  have hbefore : (s.stream.take s.off ++ List.replicate (s.off - (s.stream.take s.off).length) 0).length = s.off := by
    simp only [List.length_append, List.length_take, List.length_replicate]
    omega
  change (((s.stream.take s.off ++ List.replicate (s.off - (s.stream.take s.off).length) 0) ++ tableWordBytes nbits w) ++
    s.stream.drop (s.off + (tableWordBytes nbits w).length)).drop s.off = _
  rw [List.append_assoc, List.drop_left' hbefore]

theorem decode_of_decodeTableWord {nbits w : Nat} {i : Instr} (h : decodeTableWord nbits w = some i) :
    ∃ o rest, decode (tableWordBytes nbits w) = .instr i o rest := by
  unfold decodeTableWord at h
  cases hdecode : decode (tableWordBytes nbits w) with
  | instr j o rest =>
    rw [hdecode] at h
    cases h
    exact ⟨o, rest, rfl⟩
  | truncated | endOfStream | noEntry =>
    rw [hdecode] at h
    cases h

/-- Settles O42: what follows the word in the stream plays no part in its decoding. -/
theorem placedTableWordRunsNext : Obligations.PlacedTableWordRunsNext := by
  intro s nbits w i h
  obtain ⟨o, rest, hdecode⟩ := decode_of_decodeTableWord h
  have hplaced := decode_append hdecode (s.stream.drop (s.off + (tableWordBytes nbits w).length))
  rw [← drop_withFetchWord] at hplaced
  exact stepRunsDecodedInstruction _ i o _ (ready_withFetchWord s nbits w) rfl hplaced

end Sys2Proof.Machine
end

section
/-! PROOFS. The families of 40_decoder.md R150 and R151: each row is a line like any other, and no row is left out. -/

namespace Sys2Proof.Machine

theorem lookup_plain_of_default {ph : String} {t : TableId} {b : Byte} {m : String} {L : Nat} :
    (defaultTables ph).lookup t b = some (.plain m L) ↔ (defaultTables "NOP").lookup t b = some (.plain m L) := by
  rw [lookup_withText]
  cases hd : (defaultTables "NOP").lookup t b with
  | none => rfl
  | some d => cases d <;> simp [Descriptor.withText]

/-- Whether the row's text and length stand in the default tables at its instruction's entry. -/
def LineRow.stands (r : LineRow) : Bool :=
  (defaultTables "NOP").lookup r.instr.entry.table r.instr.entry.index == some (.plain r.mnemonic r.length)

theorem LineRow.isLine_of_stands {r : LineRow} (h : r.stands = true) (ph : String) :
    IsLine ((defaultTables ph).lookup r.instr.entry.table r.instr.entry.index) r.mnemonic r.length :=
  .inl (lookup_plain_of_default.mpr (beq_iff_eq.mp h))

theorem LineRow.length_pos_of_stands {r : LineRow} (h : r.stands = true) : 0 < r.length :=
  (lengthInRange_iff.mp (lengthInRange_of_isLine_default (r.isLine_of_stands h "NOP"))).1

/-- Whether an entry with a text of the family is one of the rows. -/
def familyCheck (inFamily : String → Bool) (rows : List LineRow) (t : TableId) (b : Byte) : Descriptor → Bool
  | .plain m L => !inFamily m || (rowAt t b).any fun i => rows.contains ⟨i, m, L⟩
  | .placeholder _ _ | .prefixTo _ | .displacedPrefixTo _ => true

theorem mem_of_everyEntry_familyCheck {inFamily : String → Bool} {rows : List LineRow}
    (h : everyEntry (familyCheck inFamily rows) = true) {ph : String} {i : Instr} {m : String} {L : Nat}
    (hl : (defaultTables ph).lookup i.entry.table i.entry.index = some (.plain m L)) (hm : inFamily m = true) :
    ⟨i, m, L⟩ ∈ rows := by
  have hcheck := check_of_everyEntry h (lookup_plain_of_default.mp hl)
  simpa [familyCheck, hm, rowAt_entry] using hcheck

theorem controlPrimary_stands : (controlPrimary.all fun r => r.stands && r.instr.entry.table == .primary) = true := by
  decide +kernel

theorem controlPrefixed_stands : (controlPrefixed.all fun r => r.stands && r.instr.entry.table.isSecondary) = true := by
  decide +kernel

theorem systemPrimary_stands : (systemPrimary.all fun r => r.stands && r.instr.entry.table == .primary) = true := by
  decide +kernel

theorem systemPrefixed_stands : (systemPrefixed.all fun r => r.stands && r.instr.entry.table.isSecondary) = true := by
  decide +kernel

theorem everyEntry_control :
    everyEntry (familyCheck isControlTransfer (controlPrimary ++ controlPrefixed)) = true := by
  decide +kernel

theorem everyEntry_system :
    everyEntry (familyCheck isSystemInstruction (systemPrimary ++ systemPrefixed)) = true := by
  decide +kernel

theorem exec_of_mem_primary_rows {rows : List LineRow}
    (h : (rows.all fun r => r.stands && r.instr.entry.table == .primary) = true) {r : LineRow} (hr : r ∈ rows) {s : State}
    (hfits : s.off + r.length ≤ s.size) :
    exec r.instr s = .next (s.afterLine r.length r.mnemonic (s.operandAt (s.off + 1) r.length)) := by
  obtain ⟨hstands, ht⟩ := Bool.and_eq_true_iff.mp (List.all_eq_true.mp h r hr)
  rw [exec_of_isLine (r.isLine_of_stands hstands s.placeholder), beq_iff_eq.mp ht]
  exact primaryLine_complete _ (r.length_pos_of_stands hstands) hfits

theorem exec_of_mem_prefixed_rows {rows : List LineRow}
    (h : (rows.all fun r => r.stands && r.instr.entry.table.isSecondary) = true) {r : LineRow} (hr : r ∈ rows) {s : State}
    (hfits : s.off + (r.length + 1) ≤ s.size) :
    exec r.instr s = .next (s.afterLine (r.length + 1) r.mnemonic (s.operandAt (s.off + 2) r.length)) := by
  obtain ⟨hstands, ht⟩ := Bool.and_eq_true_iff.mp (List.all_eq_true.mp h r hr)
  rw [exec_of_isLine (r.isLine_of_stands hstands s.placeholder), entryLine_of_isSecondary ht]
  exact prefixedLine_complete _ (r.length_pos_of_stands hstands) hfits

/-- Settles O36: the rows stand in the tables, so their meanings are lines, and every text of the family was looked up. -/
theorem controlTransferOnlyAdvances : Obligations.ControlTransferOnlyAdvances :=
  ⟨fun _ hr _ => exec_of_mem_primary_rows controlPrimary_stands hr,
    fun _ hr _ => exec_of_mem_prefixed_rows controlPrefixed_stands hr,
    fun _ _ _ _ => mem_of_everyEntry_familyCheck everyEntry_control⟩

/-- Settles O37, as for the control transfers. -/
theorem systemInstructionsAreLines : Obligations.SystemInstructionsAreLines :=
  ⟨fun _ hr _ => exec_of_mem_primary_rows systemPrimary_stands hr,
    fun _ hr _ => exec_of_mem_prefixed_rows systemPrefixed_stands hr,
    fun _ _ _ _ => mem_of_everyEntry_familyCheck everyEntry_system⟩

end Sys2Proof.Machine
end

section
/-! PROOFS. The text of a line: operands, hexadecimal digits, widths (20_memory.md R52; 40_decoder.md R144, R155). -/

namespace Sys2Proof

theorem toNat_word16 (lo hi : Byte) : (word16 lo hi).toNat = lo.toNat + 256 * hi.toNat := by
  have hlo := lo.isLt
  have hhi := hi.isLt
  have hor := Nat.shiftLeft_add_eq_or_of_lt hlo hi.toNat
  rw [Nat.shiftLeft_eq] at hor
  rw [word16, BitVec.toNat_or, BitVec.toNat_shiftLeft, BitVec.toNat_setWidth, BitVec.toNat_setWidth, Nat.shiftLeft_eq,
    Nat.mod_eq_of_lt (show lo.toNat < 2 ^ 16 by omega), Nat.mod_eq_of_lt (show hi.toNat < 2 ^ 16 by omega),
    Nat.mod_eq_of_lt (show hi.toNat * 2 ^ 8 < 2 ^ 16 by omega), Nat.or_comm, ← hor]
  omega

end Sys2Proof

namespace Sys2Proof.Machine

/-- Settles O43: the two bytes share no bit of the word, so their union is their sum. -/
theorem wordOperandIsLittleEndian : Obligations.WordOperandIsLittleEndian :=
  ⟨toNat_word16, fun _ _ => rfl, by decide⟩

/-- Settles O44: the digits are the remainders by 16 of the value divided by the powers of 16. -/
theorem hexTextHasFixedWidthDigits : Obligations.HexTextHasFixedWidthDigits := by
  refine ⟨fun w => ?_, fun w => ?_, by decide⟩
  · have hw := w.isLt
    exact ⟨w.toNat / 16 / 16 / 16 % 16, w.toNat / 16 / 16 % 16, w.toNat / 16 % 16, w.toNat % 16, by omega, by omega,
      by omega, by omega, by omega, rfl⟩
  · have hw := w.isLt
    exact ⟨w.toNat / 16 % 16, w.toNat % 16, by omega, by omega, by omega, rfl⟩

/-- Settles O45: the operand's text is empty, or ` #` and the digits of its width. -/
theorem lineTextFollowsOperandWidth : Obligations.LineTextFollowsOperandWidth := by
  intro a m v w
  refine ⟨?_, ?_, ?_⟩
  · rw [DecodedLine.text, operandText, String.append_empty]
  · rw [DecodedLine.text, operandText, ← String.append_assoc]
  · rw [DecodedLine.text, operandText, ← String.append_assoc]

end Sys2Proof.Machine
end

section
/-! PROOFS. Several decoders over one table set (60_exceptions.md R211). -/

namespace Sys2Proof.Machine

variable {g : DecoderGroup} {d : Decoder} {k : Nat}

theorem DecoderGroup.runSchedule_tables (g : DecoderGroup) (schedule : List Nat) :
    (g.runSchedule schedule).tables = g.tables := by
  induction schedule generalizing g with
  | nil => rfl
  | cons j js ih => rw [runSchedule, ih, stepAt_tables]

theorem DecoderGroup.runSchedule_placeholder (g : DecoderGroup) (schedule : List Nat) :
    (g.runSchedule schedule).placeholder = g.placeholder := by
  induction schedule generalizing g with
  | nil => rfl
  | cons j js ih => rw [runSchedule, ih, stepAt_placeholder]

theorem DecoderGroup.runSchedule_length (g : DecoderGroup) (schedule : List Nat) :
    (g.runSchedule schedule).decoders.length = g.decoders.length := by
  induction schedule generalizing g with
  | nil => rfl
  | cons j js ih => rw [runSchedule, ih, stepAt_length]

/-- A decoder steps on its own record and the shared tables, which a step of the group leaves. -/
theorem DecoderGroup.state_stepAt (g : DecoderGroup) (j : Nat) (d : Decoder) : (g.stepAt j).state d = g.state d := by
  rw [state, state, stepAt_tables, stepAt_placeholder]

/-- The decoder that steps goes where one step of its run goes. -/
theorem DecoderGroup.stepAt_same (hd : g.decoders[k]? = some d) :
    (g.stepAt k).decoders[k]? = some (runSteps 1 (g.state d)).decoder := by
  by_cases h : ∃ t, step (g.state d) = .next t
  · obtain ⟨t, ht⟩ := h
    obtain ⟨hk, -⟩ := List.getElem?_eq_some_iff.mp hd
    rw [stepAt_of_next hd ht, runSteps_of_step ht, List.getElem?_set_self hk]
    rfl
  · have hno : ∀ t, step (g.state d) ≠ .next t := fun t ht => h ⟨t, ht⟩
    rw [stepAt_of_no_step hd hno, runSteps_of_no_step hno, hd, decoder_state]

/-- A run's record, put back into the group, is the run's state. -/
theorem DecoderGroup.state_decoder_runSteps (g : DecoderGroup) (d : Decoder) (k : Nat) :
    g.state (runSteps k (g.state d)).decoder = runSteps k (g.state d) := by
  have hlater := runSteps_laterThan k (g.state d)
  exact state_decoder hlater.tables hlater.placeholder

theorem DecoderGroup.runSchedule_decoder (schedule : List Nat) (hd : g.decoders[k]? = some d) :
    (g.runSchedule schedule).decoders[k]? = some (runSteps (schedule.count k) (g.state d)).decoder := by
  induction schedule generalizing g d with
  | nil => exact hd
  | cons j js ih =>
    rw [runSchedule]
    by_cases hj : j = k
    · subst hj
      rw [ih (stepAt_same hd), state_stepAt, state_decoder_runSteps, List.count_cons_self, Nat.add_comm, runSteps_add]
    · rw [ih ((stepAt_other g hj).trans hd), state_stepAt, List.count_cons_of_ne hj]

/-- Settles O47: a step of the group is a step of one decoder's run and leaves the others. -/
theorem decodersRunAsIfAlone : Obligations.DecodersRunAsIfAlone :=
  fun g schedule => ⟨g.runSchedule_tables schedule, g.runSchedule_placeholder schedule, g.runSchedule_length schedule,
    fun _ _ hd => DecoderGroup.runSchedule_decoder schedule hd⟩

/-- Settles O48: each decoder is where its own run is, which has ended after one step more than its stream has bytes. -/
theorem groupOutputIsDecodeOfEachStream : Obligations.GroupOutputIsDecodeOfEachStream := by
  intro tables placeholder streams schedule k stream lines hk hlines hcount
  obtain ⟨hready, rfl⟩ := decodeStream_eq_some hlines
  have hd : (DecoderGroup.start tables placeholder streams).decoders[k]? =
      some (State.start stream tables placeholder).decoder := by
    rw [DecoderGroup.start, List.getElem?_map, hk]
    rfl
  have hended : runSteps (schedule.count k) (State.start stream tables placeholder) =
      runSteps (stream.length + 1) (State.start stream tables placeholder) :=
    runSteps_eq_of_size_lt hready (Nat.lt_succ_self _) hcount
  rw [DecoderGroup.runSchedule_decoder schedule hd, ← hended]
  rfl

end Sys2Proof.Machine
end
